-- ==== Sys2Proof/Word.lean ====
section
/-! DEFINITION. The two widths the SM83 works in (spec 00_scope.md R6): `u8` and `u16`. -/

namespace Sys2Proof

/-- `u8`: a register, a memory byte, an opcode byte (R6). -/
abbrev Byte := BitVec 8

/-- `u16`: an address, `SP`, `PC`, a register pair (R6). -/
abbrev Word := BitVec 16

end Sys2Proof
end

