-- ==== Sys2Proof/Config.lean ====
section
/-! DEFINITION. What the implementation leaves open. The spec's only open value inside a step is the
`draw u8` of an unmapped read (R10, R81); the ROM image and the boot profile are arguments of the host's
commands (Machine/HostInterface.lean). -/

namespace Sys2Proof

/-- `draw u8` (R10, R81; 92_eei_decisions.md D6): the byte the `n`-th read of an unmapped address returns.
It has no body, so no proof can evaluate it: a free value. The reads are numbered by `State.draws`, so two
reads are never tied to one another. Log entry 1. -/
opaque Config.draw : Nat → Byte

end Sys2Proof
end

