-- ==== Sys2Proof/Syntax.lean ====
section
/-! DEFINITION. The instructions as syntax: the operand tables of 30_encoding.md (R123 to R129) as
enumerations, and `Instr`, one constructor per row of spec/opcode_table.json (244 unprefixed
instructions, 11 illegal bytes and 256 extended instructions; log entry 9 on the count).
A constructor's arguments are exactly the immediate bytes the row's format gives it (R120, R128). -/

namespace Sys2Proof

/-- The seven 8-bit registers an operand field can name (R123, indices 0 to 5 and 7). -/
inductive Reg8 where
  | b | c | d | e | h | l | a
  deriving DecidableEq, Repr

/-- An entry of the operand table `r8` (R123): a register, or index 6, the byte at `HL`. -/
inductive Operand8 where
  | reg (r : Reg8)
  | atHL
  deriving DecidableEq, Repr

/-- The pair table `rp` (R124). -/
inductive Pair where
  | bc | de | hl | sp
  deriving DecidableEq, Repr

/-- The pair table `rp2` of `PUSH` and `POP` (R125). -/
inductive StackPair where
  | bc | de | hl | af
  deriving DecidableEq, Repr

/-- The condition table `cc` (R126). -/
inductive Cond where
  | nz | z | nc | c
  deriving DecidableEq, Repr

/-- The ALU operation table `alu` (R127). -/
inductive AluOp where
  | add | adc | sub | sbc | and | xor | or | cp
  deriving DecidableEq, Repr

/-- The rotate and shift table `rot` (R129). -/
inductive RotOp where
  | rlc | rrc | rl | rr | sla | sra | swap | srl
  deriving DecidableEq, Repr

/-- The instructions: one constructor per row of spec/opcode_table.json, those with
an immediate first (the compiler numbers constructors that carry data below 245), each group in the table's
order. `AtX` in a name is the memory operand `(X)`; `AtHLInc` and `AtHLDec` are `(HL+)` and `(HL-)`. -/
inductive Instr where
  /-- `LD BC,n16`, 0x01, R319. -/
  | ldBCN16 (n16 : Word)
  /-- `LD B,n8`, 0x06, R303. -/
  | ldBN8 (n8 : Byte)
  /-- `LD (a16),SP`, 0x08, R320. -/
  | ldAtA16SP (a16 : Word)
  /-- `LD C,n8`, 0x0E, R303. -/
  | ldCN8 (n8 : Byte)
  /-- `STOP`, 0x10, R702. -/
  | stop (n8 : Byte)
  /-- `LD DE,n16`, 0x11, R319. -/
  | ldDEN16 (n16 : Word)
  /-- `LD D,n8`, 0x16, R303. -/
  | ldDN8 (n8 : Byte)
  /-- `JR e8`, 0x18, R503. -/
  | jrE8 (e8 : Byte)
  /-- `LD E,n8`, 0x1E, R303. -/
  | ldEN8 (n8 : Byte)
  /-- `JR NZ,e8`, 0x20, R504. -/
  | jrNZE8 (e8 : Byte)
  /-- `LD HL,n16`, 0x21, R319. -/
  | ldHLN16 (n16 : Word)
  /-- `LD H,n8`, 0x26, R303. -/
  | ldHN8 (n8 : Byte)
  /-- `JR Z,e8`, 0x28, R504. -/
  | jrZE8 (e8 : Byte)
  /-- `LD L,n8`, 0x2E, R303. -/
  | ldLN8 (n8 : Byte)
  /-- `JR NC,e8`, 0x30, R504. -/
  | jrNCE8 (e8 : Byte)
  /-- `LD SP,n16`, 0x31, R319. -/
  | ldSPN16 (n16 : Word)
  /-- `LD (HL),n8`, 0x36, R304. -/
  | ldAtHLN8 (n8 : Byte)
  /-- `JR C,e8`, 0x38, R504. -/
  | jrCE8 (e8 : Byte)
  /-- `LD A,n8`, 0x3E, R303. -/
  | ldAN8 (n8 : Byte)
  /-- `JP NZ,a16`, 0xC2, R501. -/
  | jpNZA16 (a16 : Word)
  /-- `JP a16`, 0xC3, R500. -/
  | jpA16 (a16 : Word)
  /-- `CALL NZ,a16`, 0xC4, R506. -/
  | callNZA16 (a16 : Word)
  /-- `ADD A,n8`, 0xC6, R212. -/
  | addAN8 (n8 : Byte)
  /-- `JP Z,a16`, 0xCA, R501. -/
  | jpZA16 (a16 : Word)
  /-- `CALL Z,a16`, 0xCC, R506. -/
  | callZA16 (a16 : Word)
  /-- `CALL a16`, 0xCD, R505. -/
  | callA16 (a16 : Word)
  /-- `ADC A,n8`, 0xCE, R215. -/
  | adcAN8 (n8 : Byte)
  /-- `JP NC,a16`, 0xD2, R501. -/
  | jpNCA16 (a16 : Word)
  /-- `CALL NC,a16`, 0xD4, R506. -/
  | callNCA16 (a16 : Word)
  /-- `SUB n8`, 0xD6, R218. -/
  | subN8 (n8 : Byte)
  /-- `JP C,a16`, 0xDA, R501. -/
  | jpCA16 (a16 : Word)
  /-- `CALL C,a16`, 0xDC, R506. -/
  | callCA16 (a16 : Word)
  /-- `SBC A,n8`, 0xDE, R221. -/
  | sbcAN8 (n8 : Byte)
  /-- `LDH (a8),A`, 0xE0, R313. -/
  | ldhAtA8A (a8 : Byte)
  /-- `AND n8`, 0xE6, R224. -/
  | andN8 (n8 : Byte)
  /-- `ADD SP,e8`, 0xE8, R405. -/
  | addSPE8 (e8 : Byte)
  /-- `LD (a16),A`, 0xEA, R317. -/
  | ldAtA16A (a16 : Word)
  /-- `XOR n8`, 0xEE, R227. -/
  | xorN8 (n8 : Byte)
  /-- `LDH A,(a8)`, 0xF0, R314. -/
  | ldhAAtA8 (a8 : Byte)
  /-- `OR n8`, 0xF6, R230. -/
  | orN8 (n8 : Byte)
  /-- `LD HL,SP+e8`, 0xF8, R406. -/
  | ldHLSPE8 (e8 : Byte)
  /-- `LD A,(a16)`, 0xFA, R318. -/
  | ldAAtA16 (a16 : Word)
  /-- `CP n8`, 0xFE, R233. -/
  | cpN8 (n8 : Byte)
  /-- `NOP`, 0x00, R700. -/
  | nop
  /-- `LD (BC),A`, 0x02, R305. -/
  | ldAtBCA
  /-- `INC BC`, 0x03, R402. -/
  | incBC
  /-- `INC B`, 0x04, R234. -/
  | incB
  /-- `DEC B`, 0x05, R236. -/
  | decB
  /-- `RLCA`, 0x07, R601. -/
  | rlca
  /-- `ADD HL,BC`, 0x09, R404. -/
  | addHLBC
  /-- `LD A,(BC)`, 0x0A, R307. -/
  | ldAAtBC
  /-- `DEC BC`, 0x0B, R403. -/
  | decBC
  /-- `INC C`, 0x0C, R234. -/
  | incC
  /-- `DEC C`, 0x0D, R236. -/
  | decC
  /-- `RRCA`, 0x0F, R602. -/
  | rrca
  /-- `LD (DE),A`, 0x12, R306. -/
  | ldAtDEA
  /-- `INC DE`, 0x13, R402. -/
  | incDE
  /-- `INC D`, 0x14, R234. -/
  | incD
  /-- `DEC D`, 0x15, R236. -/
  | decD
  /-- `RLA`, 0x17, R603. -/
  | rla
  /-- `ADD HL,DE`, 0x19, R404. -/
  | addHLDE
  /-- `LD A,(DE)`, 0x1A, R308. -/
  | ldAAtDE
  /-- `DEC DE`, 0x1B, R403. -/
  | decDE
  /-- `INC E`, 0x1C, R234. -/
  | incE
  /-- `DEC E`, 0x1D, R236. -/
  | decE
  /-- `RRA`, 0x1F, R604. -/
  | rra
  /-- `LD (HL+),A`, 0x22, R309. -/
  | ldAtHLIncA
  /-- `INC HL`, 0x23, R402. -/
  | incHL
  /-- `INC H`, 0x24, R234. -/
  | incH
  /-- `DEC H`, 0x25, R236. -/
  | decH
  /-- `DAA`, 0x27, R238. -/
  | daa
  /-- `ADD HL,HL`, 0x29, R404. -/
  | addHLHL
  /-- `LD A,(HL+)`, 0x2A, R311. -/
  | ldAAtHLInc
  /-- `DEC HL`, 0x2B, R403. -/
  | decHL
  /-- `INC L`, 0x2C, R234. -/
  | incL
  /-- `DEC L`, 0x2D, R236. -/
  | decL
  /-- `CPL`, 0x2F, R239. -/
  | cpl
  /-- `LD (HL-),A`, 0x32, R310. -/
  | ldAtHLDecA
  /-- `INC SP`, 0x33, R402. -/
  | incSP
  /-- `INC (HL)`, 0x34, R235. -/
  | incAtHL
  /-- `DEC (HL)`, 0x35, R237. -/
  | decAtHL
  /-- `SCF`, 0x37, R240. -/
  | scf
  /-- `ADD HL,SP`, 0x39, R404. -/
  | addHLSP
  /-- `LD A,(HL-)`, 0x3A, R312. -/
  | ldAAtHLDec
  /-- `DEC SP`, 0x3B, R403. -/
  | decSP
  /-- `INC A`, 0x3C, R234. -/
  | incA
  /-- `DEC A`, 0x3D, R236. -/
  | decA
  /-- `CCF`, 0x3F, R241. -/
  | ccf
  /-- `LD B,B`, 0x40, R300. -/
  | ldBB
  /-- `LD B,C`, 0x41, R300. -/
  | ldBC
  /-- `LD B,D`, 0x42, R300. -/
  | ldBD
  /-- `LD B,E`, 0x43, R300. -/
  | ldBE
  /-- `LD B,H`, 0x44, R300. -/
  | ldBH
  /-- `LD B,L`, 0x45, R300. -/
  | ldBL
  /-- `LD B,(HL)`, 0x46, R301. -/
  | ldBAtHL
  /-- `LD B,A`, 0x47, R300. -/
  | ldBA
  /-- `LD C,B`, 0x48, R300. -/
  | ldCB
  /-- `LD C,C`, 0x49, R300. -/
  | ldCC
  /-- `LD C,D`, 0x4A, R300. -/
  | ldCD
  /-- `LD C,E`, 0x4B, R300. -/
  | ldCE
  /-- `LD C,H`, 0x4C, R300. -/
  | ldCH
  /-- `LD C,L`, 0x4D, R300. -/
  | ldCL
  /-- `LD C,(HL)`, 0x4E, R301. -/
  | ldCAtHL
  /-- `LD C,A`, 0x4F, R300. -/
  | ldCA
  /-- `LD D,B`, 0x50, R300. -/
  | ldDB
  /-- `LD D,C`, 0x51, R300. -/
  | ldDC
  /-- `LD D,D`, 0x52, R300. -/
  | ldDD
  /-- `LD D,E`, 0x53, R300. -/
  | ldDE
  /-- `LD D,H`, 0x54, R300. -/
  | ldDH
  /-- `LD D,L`, 0x55, R300. -/
  | ldDL
  /-- `LD D,(HL)`, 0x56, R301. -/
  | ldDAtHL
  /-- `LD D,A`, 0x57, R300. -/
  | ldDA
  /-- `LD E,B`, 0x58, R300. -/
  | ldEB
  /-- `LD E,C`, 0x59, R300. -/
  | ldEC
  /-- `LD E,D`, 0x5A, R300. -/
  | ldED
  /-- `LD E,E`, 0x5B, R300. -/
  | ldEE
  /-- `LD E,H`, 0x5C, R300. -/
  | ldEH
  /-- `LD E,L`, 0x5D, R300. -/
  | ldEL
  /-- `LD E,(HL)`, 0x5E, R301. -/
  | ldEAtHL
  /-- `LD E,A`, 0x5F, R300. -/
  | ldEA
  /-- `LD H,B`, 0x60, R300. -/
  | ldHB
  /-- `LD H,C`, 0x61, R300. -/
  | ldHC
  /-- `LD H,D`, 0x62, R300. -/
  | ldHD
  /-- `LD H,E`, 0x63, R300. -/
  | ldHE
  /-- `LD H,H`, 0x64, R300. -/
  | ldHH
  /-- `LD H,L`, 0x65, R300. -/
  | ldHL
  /-- `LD H,(HL)`, 0x66, R301. -/
  | ldHAtHL
  /-- `LD H,A`, 0x67, R300. -/
  | ldHA
  /-- `LD L,B`, 0x68, R300. -/
  | ldLB
  /-- `LD L,C`, 0x69, R300. -/
  | ldLC
  /-- `LD L,D`, 0x6A, R300. -/
  | ldLD
  /-- `LD L,E`, 0x6B, R300. -/
  | ldLE
  /-- `LD L,H`, 0x6C, R300. -/
  | ldLH
  /-- `LD L,L`, 0x6D, R300. -/
  | ldLL
  /-- `LD L,(HL)`, 0x6E, R301. -/
  | ldLAtHL
  /-- `LD L,A`, 0x6F, R300. -/
  | ldLA
  /-- `LD (HL),B`, 0x70, R302. -/
  | ldAtHLB
  /-- `LD (HL),C`, 0x71, R302. -/
  | ldAtHLC
  /-- `LD (HL),D`, 0x72, R302. -/
  | ldAtHLD
  /-- `LD (HL),E`, 0x73, R302. -/
  | ldAtHLE
  /-- `LD (HL),H`, 0x74, R302. -/
  | ldAtHLH
  /-- `LD (HL),L`, 0x75, R302. -/
  | ldAtHLL
  /-- `HALT`, 0x76, R701. -/
  | halt
  /-- `LD (HL),A`, 0x77, R302. -/
  | ldAtHLA
  /-- `LD A,B`, 0x78, R300. -/
  | ldAB
  /-- `LD A,C`, 0x79, R300. -/
  | ldAC
  /-- `LD A,D`, 0x7A, R300. -/
  | ldAD
  /-- `LD A,E`, 0x7B, R300. -/
  | ldAE
  /-- `LD A,H`, 0x7C, R300. -/
  | ldAH
  /-- `LD A,L`, 0x7D, R300. -/
  | ldAL
  /-- `LD A,(HL)`, 0x7E, R301. -/
  | ldAAtHL
  /-- `LD A,A`, 0x7F, R300. -/
  | ldAA
  /-- `ADD A,B`, 0x80, R210. -/
  | addAB
  /-- `ADD A,C`, 0x81, R210. -/
  | addAC
  /-- `ADD A,D`, 0x82, R210. -/
  | addAD
  /-- `ADD A,E`, 0x83, R210. -/
  | addAE
  /-- `ADD A,H`, 0x84, R210. -/
  | addAH
  /-- `ADD A,L`, 0x85, R210. -/
  | addAL
  /-- `ADD A,(HL)`, 0x86, R211. -/
  | addAAtHL
  /-- `ADD A,A`, 0x87, R210. -/
  | addAA
  /-- `ADC A,B`, 0x88, R213. -/
  | adcAB
  /-- `ADC A,C`, 0x89, R213. -/
  | adcAC
  /-- `ADC A,D`, 0x8A, R213. -/
  | adcAD
  /-- `ADC A,E`, 0x8B, R213. -/
  | adcAE
  /-- `ADC A,H`, 0x8C, R213. -/
  | adcAH
  /-- `ADC A,L`, 0x8D, R213. -/
  | adcAL
  /-- `ADC A,(HL)`, 0x8E, R214. -/
  | adcAAtHL
  /-- `ADC A,A`, 0x8F, R213. -/
  | adcAA
  /-- `SUB B`, 0x90, R216. -/
  | subB
  /-- `SUB C`, 0x91, R216. -/
  | subC
  /-- `SUB D`, 0x92, R216. -/
  | subD
  /-- `SUB E`, 0x93, R216. -/
  | subE
  /-- `SUB H`, 0x94, R216. -/
  | subH
  /-- `SUB L`, 0x95, R216. -/
  | subL
  /-- `SUB (HL)`, 0x96, R217. -/
  | subAtHL
  /-- `SUB A`, 0x97, R216. -/
  | subA
  /-- `SBC A,B`, 0x98, R219. -/
  | sbcAB
  /-- `SBC A,C`, 0x99, R219. -/
  | sbcAC
  /-- `SBC A,D`, 0x9A, R219. -/
  | sbcAD
  /-- `SBC A,E`, 0x9B, R219. -/
  | sbcAE
  /-- `SBC A,H`, 0x9C, R219. -/
  | sbcAH
  /-- `SBC A,L`, 0x9D, R219. -/
  | sbcAL
  /-- `SBC A,(HL)`, 0x9E, R220. -/
  | sbcAAtHL
  /-- `SBC A,A`, 0x9F, R219. -/
  | sbcAA
  /-- `AND B`, 0xA0, R222. -/
  | andB
  /-- `AND C`, 0xA1, R222. -/
  | andC
  /-- `AND D`, 0xA2, R222. -/
  | andD
  /-- `AND E`, 0xA3, R222. -/
  | andE
  /-- `AND H`, 0xA4, R222. -/
  | andH
  /-- `AND L`, 0xA5, R222. -/
  | andL
  /-- `AND (HL)`, 0xA6, R223. -/
  | andAtHL
  /-- `AND A`, 0xA7, R222. -/
  | andA
  /-- `XOR B`, 0xA8, R225. -/
  | xorB
  /-- `XOR C`, 0xA9, R225. -/
  | xorC
  /-- `XOR D`, 0xAA, R225. -/
  | xorD
  /-- `XOR E`, 0xAB, R225. -/
  | xorE
  /-- `XOR H`, 0xAC, R225. -/
  | xorH
  /-- `XOR L`, 0xAD, R225. -/
  | xorL
  /-- `XOR (HL)`, 0xAE, R226. -/
  | xorAtHL
  /-- `XOR A`, 0xAF, R225. -/
  | xorA
  /-- `OR B`, 0xB0, R228. -/
  | orB
  /-- `OR C`, 0xB1, R228. -/
  | orC
  /-- `OR D`, 0xB2, R228. -/
  | orD
  /-- `OR E`, 0xB3, R228. -/
  | orE
  /-- `OR H`, 0xB4, R228. -/
  | orH
  /-- `OR L`, 0xB5, R228. -/
  | orL
  /-- `OR (HL)`, 0xB6, R229. -/
  | orAtHL
  /-- `OR A`, 0xB7, R228. -/
  | orA
  /-- `CP B`, 0xB8, R231. -/
  | cpB
  /-- `CP C`, 0xB9, R231. -/
  | cpC
  /-- `CP D`, 0xBA, R231. -/
  | cpD
  /-- `CP E`, 0xBB, R231. -/
  | cpE
  /-- `CP H`, 0xBC, R231. -/
  | cpH
  /-- `CP L`, 0xBD, R231. -/
  | cpL
  /-- `CP (HL)`, 0xBE, R232. -/
  | cpAtHL
  /-- `CP A`, 0xBF, R231. -/
  | cpA
  /-- `RET NZ`, 0xC0, R508. -/
  | retNZ
  /-- `POP BC`, 0xC1, R324. -/
  | popBC
  /-- `PUSH BC`, 0xC5, R322. -/
  | pushBC
  /-- `RST 0x00`, 0xC7, R510. -/
  | rst00
  /-- `RET Z`, 0xC8, R508. -/
  | retZ
  /-- `RET`, 0xC9, R507. -/
  | ret
  /-- `RST 0x08`, 0xCF, R510. -/
  | rst08
  /-- `RET NC`, 0xD0, R508. -/
  | retNC
  /-- `POP DE`, 0xD1, R324. -/
  | popDE
  /-- illegal byte, 0xD3, R705. -/
  | illegalD3
  /-- `PUSH DE`, 0xD5, R322. -/
  | pushDE
  /-- `RST 0x10`, 0xD7, R510. -/
  | rst10
  /-- `RET C`, 0xD8, R508. -/
  | retC
  /-- `RETI`, 0xD9, R509. -/
  | reti
  /-- illegal byte, 0xDB, R705. -/
  | illegalDB
  /-- illegal byte, 0xDD, R705. -/
  | illegalDD
  /-- `RST 0x18`, 0xDF, R510. -/
  | rst18
  /-- `POP HL`, 0xE1, R324. -/
  | popHL
  /-- `LDH (C),A`, 0xE2, R315. -/
  | ldhAtCA
  /-- illegal byte, 0xE3, R705. -/
  | illegalE3
  /-- illegal byte, 0xE4, R705. -/
  | illegalE4
  /-- `PUSH HL`, 0xE5, R322. -/
  | pushHL
  /-- `RST 0x20`, 0xE7, R510. -/
  | rst20
  /-- `JP HL`, 0xE9, R502. -/
  | jpHL
  /-- illegal byte, 0xEB, R705. -/
  | illegalEB
  /-- illegal byte, 0xEC, R705. -/
  | illegalEC
  /-- illegal byte, 0xED, R705. -/
  | illegalED
  /-- `RST 0x28`, 0xEF, R510. -/
  | rst28
  /-- `POP AF`, 0xF1, R325. -/
  | popAF
  /-- `LDH A,(C)`, 0xF2, R316. -/
  | ldhAAtC
  /-- `DI`, 0xF3, R703. -/
  | di
  /-- illegal byte, 0xF4, R705. -/
  | illegalF4
  /-- `PUSH AF`, 0xF5, R323. -/
  | pushAF
  /-- `RST 0x30`, 0xF7, R510. -/
  | rst30
  /-- `LD SP,HL`, 0xF9, R321. -/
  | ldSPHL
  /-- `EI`, 0xFB, R704. -/
  | ei
  /-- illegal byte, 0xFC, R705. -/
  | illegalFC
  /-- illegal byte, 0xFD, R705. -/
  | illegalFD
  /-- `RST 0x38`, 0xFF, R510. -/
  | rst38
  /-- `RLC B`, 0xCB00, R610. -/
  | rlcB
  /-- `RLC C`, 0xCB01, R610. -/
  | rlcC
  /-- `RLC D`, 0xCB02, R610. -/
  | rlcD
  /-- `RLC E`, 0xCB03, R610. -/
  | rlcE
  /-- `RLC H`, 0xCB04, R610. -/
  | rlcH
  /-- `RLC L`, 0xCB05, R610. -/
  | rlcL
  /-- `RLC (HL)`, 0xCB06, R611. -/
  | rlcAtHL
  /-- `RLC A`, 0xCB07, R610. -/
  | rlcA
  /-- `RRC B`, 0xCB08, R612. -/
  | rrcB
  /-- `RRC C`, 0xCB09, R612. -/
  | rrcC
  /-- `RRC D`, 0xCB0A, R612. -/
  | rrcD
  /-- `RRC E`, 0xCB0B, R612. -/
  | rrcE
  /-- `RRC H`, 0xCB0C, R612. -/
  | rrcH
  /-- `RRC L`, 0xCB0D, R612. -/
  | rrcL
  /-- `RRC (HL)`, 0xCB0E, R613. -/
  | rrcAtHL
  /-- `RRC A`, 0xCB0F, R612. -/
  | rrcA
  /-- `RL B`, 0xCB10, R614. -/
  | rlB
  /-- `RL C`, 0xCB11, R614. -/
  | rlC
  /-- `RL D`, 0xCB12, R614. -/
  | rlD
  /-- `RL E`, 0xCB13, R614. -/
  | rlE
  /-- `RL H`, 0xCB14, R614. -/
  | rlH
  /-- `RL L`, 0xCB15, R614. -/
  | rlL
  /-- `RL (HL)`, 0xCB16, R615. -/
  | rlAtHL
  /-- `RL A`, 0xCB17, R614. -/
  | rlA
  /-- `RR B`, 0xCB18, R616. -/
  | rrB
  /-- `RR C`, 0xCB19, R616. -/
  | rrC
  /-- `RR D`, 0xCB1A, R616. -/
  | rrD
  /-- `RR E`, 0xCB1B, R616. -/
  | rrE
  /-- `RR H`, 0xCB1C, R616. -/
  | rrH
  /-- `RR L`, 0xCB1D, R616. -/
  | rrL
  /-- `RR (HL)`, 0xCB1E, R617. -/
  | rrAtHL
  /-- `RR A`, 0xCB1F, R616. -/
  | rrA
  /-- `SLA B`, 0xCB20, R618. -/
  | slaB
  /-- `SLA C`, 0xCB21, R618. -/
  | slaC
  /-- `SLA D`, 0xCB22, R618. -/
  | slaD
  /-- `SLA E`, 0xCB23, R618. -/
  | slaE
  /-- `SLA H`, 0xCB24, R618. -/
  | slaH
  /-- `SLA L`, 0xCB25, R618. -/
  | slaL
  /-- `SLA (HL)`, 0xCB26, R619. -/
  | slaAtHL
  /-- `SLA A`, 0xCB27, R618. -/
  | slaA
  /-- `SRA B`, 0xCB28, R620. -/
  | sraB
  /-- `SRA C`, 0xCB29, R620. -/
  | sraC
  /-- `SRA D`, 0xCB2A, R620. -/
  | sraD
  /-- `SRA E`, 0xCB2B, R620. -/
  | sraE
  /-- `SRA H`, 0xCB2C, R620. -/
  | sraH
  /-- `SRA L`, 0xCB2D, R620. -/
  | sraL
  /-- `SRA (HL)`, 0xCB2E, R621. -/
  | sraAtHL
  /-- `SRA A`, 0xCB2F, R620. -/
  | sraA
  /-- `SWAP B`, 0xCB30, R622. -/
  | swapB
  /-- `SWAP C`, 0xCB31, R622. -/
  | swapC
  /-- `SWAP D`, 0xCB32, R622. -/
  | swapD
  /-- `SWAP E`, 0xCB33, R622. -/
  | swapE
  /-- `SWAP H`, 0xCB34, R622. -/
  | swapH
  /-- `SWAP L`, 0xCB35, R622. -/
  | swapL
  /-- `SWAP (HL)`, 0xCB36, R623. -/
  | swapAtHL
  /-- `SWAP A`, 0xCB37, R622. -/
  | swapA
  /-- `SRL B`, 0xCB38, R624. -/
  | srlB
  /-- `SRL C`, 0xCB39, R624. -/
  | srlC
  /-- `SRL D`, 0xCB3A, R624. -/
  | srlD
  /-- `SRL E`, 0xCB3B, R624. -/
  | srlE
  /-- `SRL H`, 0xCB3C, R624. -/
  | srlH
  /-- `SRL L`, 0xCB3D, R624. -/
  | srlL
  /-- `SRL (HL)`, 0xCB3E, R625. -/
  | srlAtHL
  /-- `SRL A`, 0xCB3F, R624. -/
  | srlA
  /-- `BIT 0,B`, 0xCB40, R626. -/
  | bit0B
  /-- `BIT 0,C`, 0xCB41, R626. -/
  | bit0C
  /-- `BIT 0,D`, 0xCB42, R626. -/
  | bit0D
  /-- `BIT 0,E`, 0xCB43, R626. -/
  | bit0E
  /-- `BIT 0,H`, 0xCB44, R626. -/
  | bit0H
  /-- `BIT 0,L`, 0xCB45, R626. -/
  | bit0L
  /-- `BIT 0,(HL)`, 0xCB46, R627. -/
  | bit0AtHL
  /-- `BIT 0,A`, 0xCB47, R626. -/
  | bit0A
  /-- `BIT 1,B`, 0xCB48, R626. -/
  | bit1B
  /-- `BIT 1,C`, 0xCB49, R626. -/
  | bit1C
  /-- `BIT 1,D`, 0xCB4A, R626. -/
  | bit1D
  /-- `BIT 1,E`, 0xCB4B, R626. -/
  | bit1E
  /-- `BIT 1,H`, 0xCB4C, R626. -/
  | bit1H
  /-- `BIT 1,L`, 0xCB4D, R626. -/
  | bit1L
  /-- `BIT 1,(HL)`, 0xCB4E, R627. -/
  | bit1AtHL
  /-- `BIT 1,A`, 0xCB4F, R626. -/
  | bit1A
  /-- `BIT 2,B`, 0xCB50, R626. -/
  | bit2B
  /-- `BIT 2,C`, 0xCB51, R626. -/
  | bit2C
  /-- `BIT 2,D`, 0xCB52, R626. -/
  | bit2D
  /-- `BIT 2,E`, 0xCB53, R626. -/
  | bit2E
  /-- `BIT 2,H`, 0xCB54, R626. -/
  | bit2H
  /-- `BIT 2,L`, 0xCB55, R626. -/
  | bit2L
  /-- `BIT 2,(HL)`, 0xCB56, R627. -/
  | bit2AtHL
  /-- `BIT 2,A`, 0xCB57, R626. -/
  | bit2A
  /-- `BIT 3,B`, 0xCB58, R626. -/
  | bit3B
  /-- `BIT 3,C`, 0xCB59, R626. -/
  | bit3C
  /-- `BIT 3,D`, 0xCB5A, R626. -/
  | bit3D
  /-- `BIT 3,E`, 0xCB5B, R626. -/
  | bit3E
  /-- `BIT 3,H`, 0xCB5C, R626. -/
  | bit3H
  /-- `BIT 3,L`, 0xCB5D, R626. -/
  | bit3L
  /-- `BIT 3,(HL)`, 0xCB5E, R627. -/
  | bit3AtHL
  /-- `BIT 3,A`, 0xCB5F, R626. -/
  | bit3A
  /-- `BIT 4,B`, 0xCB60, R626. -/
  | bit4B
  /-- `BIT 4,C`, 0xCB61, R626. -/
  | bit4C
  /-- `BIT 4,D`, 0xCB62, R626. -/
  | bit4D
  /-- `BIT 4,E`, 0xCB63, R626. -/
  | bit4E
  /-- `BIT 4,H`, 0xCB64, R626. -/
  | bit4H
  /-- `BIT 4,L`, 0xCB65, R626. -/
  | bit4L
  /-- `BIT 4,(HL)`, 0xCB66, R627. -/
  | bit4AtHL
  /-- `BIT 4,A`, 0xCB67, R626. -/
  | bit4A
  /-- `BIT 5,B`, 0xCB68, R626. -/
  | bit5B
  /-- `BIT 5,C`, 0xCB69, R626. -/
  | bit5C
  /-- `BIT 5,D`, 0xCB6A, R626. -/
  | bit5D
  /-- `BIT 5,E`, 0xCB6B, R626. -/
  | bit5E
  /-- `BIT 5,H`, 0xCB6C, R626. -/
  | bit5H
  /-- `BIT 5,L`, 0xCB6D, R626. -/
  | bit5L
  /-- `BIT 5,(HL)`, 0xCB6E, R627. -/
  | bit5AtHL
  /-- `BIT 5,A`, 0xCB6F, R626. -/
  | bit5A
  /-- `BIT 6,B`, 0xCB70, R626. -/
  | bit6B
  /-- `BIT 6,C`, 0xCB71, R626. -/
  | bit6C
  /-- `BIT 6,D`, 0xCB72, R626. -/
  | bit6D
  /-- `BIT 6,E`, 0xCB73, R626. -/
  | bit6E
  /-- `BIT 6,H`, 0xCB74, R626. -/
  | bit6H
  /-- `BIT 6,L`, 0xCB75, R626. -/
  | bit6L
  /-- `BIT 6,(HL)`, 0xCB76, R627. -/
  | bit6AtHL
  /-- `BIT 6,A`, 0xCB77, R626. -/
  | bit6A
  /-- `BIT 7,B`, 0xCB78, R626. -/
  | bit7B
  /-- `BIT 7,C`, 0xCB79, R626. -/
  | bit7C
  /-- `BIT 7,D`, 0xCB7A, R626. -/
  | bit7D
  /-- `BIT 7,E`, 0xCB7B, R626. -/
  | bit7E
  /-- `BIT 7,H`, 0xCB7C, R626. -/
  | bit7H
  /-- `BIT 7,L`, 0xCB7D, R626. -/
  | bit7L
  /-- `BIT 7,(HL)`, 0xCB7E, R627. -/
  | bit7AtHL
  /-- `BIT 7,A`, 0xCB7F, R626. -/
  | bit7A
  /-- `RES 0,B`, 0xCB80, R628. -/
  | res0B
  /-- `RES 0,C`, 0xCB81, R628. -/
  | res0C
  /-- `RES 0,D`, 0xCB82, R628. -/
  | res0D
  /-- `RES 0,E`, 0xCB83, R628. -/
  | res0E
  /-- `RES 0,H`, 0xCB84, R628. -/
  | res0H
  /-- `RES 0,L`, 0xCB85, R628. -/
  | res0L
  /-- `RES 0,(HL)`, 0xCB86, R629. -/
  | res0AtHL
  /-- `RES 0,A`, 0xCB87, R628. -/
  | res0A
  /-- `RES 1,B`, 0xCB88, R628. -/
  | res1B
  /-- `RES 1,C`, 0xCB89, R628. -/
  | res1C
  /-- `RES 1,D`, 0xCB8A, R628. -/
  | res1D
  /-- `RES 1,E`, 0xCB8B, R628. -/
  | res1E
  /-- `RES 1,H`, 0xCB8C, R628. -/
  | res1H
  /-- `RES 1,L`, 0xCB8D, R628. -/
  | res1L
  /-- `RES 1,(HL)`, 0xCB8E, R629. -/
  | res1AtHL
  /-- `RES 1,A`, 0xCB8F, R628. -/
  | res1A
  /-- `RES 2,B`, 0xCB90, R628. -/
  | res2B
  /-- `RES 2,C`, 0xCB91, R628. -/
  | res2C
  /-- `RES 2,D`, 0xCB92, R628. -/
  | res2D
  /-- `RES 2,E`, 0xCB93, R628. -/
  | res2E
  /-- `RES 2,H`, 0xCB94, R628. -/
  | res2H
  /-- `RES 2,L`, 0xCB95, R628. -/
  | res2L
  /-- `RES 2,(HL)`, 0xCB96, R629. -/
  | res2AtHL
  /-- `RES 2,A`, 0xCB97, R628. -/
  | res2A
  /-- `RES 3,B`, 0xCB98, R628. -/
  | res3B
  /-- `RES 3,C`, 0xCB99, R628. -/
  | res3C
  /-- `RES 3,D`, 0xCB9A, R628. -/
  | res3D
  /-- `RES 3,E`, 0xCB9B, R628. -/
  | res3E
  /-- `RES 3,H`, 0xCB9C, R628. -/
  | res3H
  /-- `RES 3,L`, 0xCB9D, R628. -/
  | res3L
  /-- `RES 3,(HL)`, 0xCB9E, R629. -/
  | res3AtHL
  /-- `RES 3,A`, 0xCB9F, R628. -/
  | res3A
  /-- `RES 4,B`, 0xCBA0, R628. -/
  | res4B
  /-- `RES 4,C`, 0xCBA1, R628. -/
  | res4C
  /-- `RES 4,D`, 0xCBA2, R628. -/
  | res4D
  /-- `RES 4,E`, 0xCBA3, R628. -/
  | res4E
  /-- `RES 4,H`, 0xCBA4, R628. -/
  | res4H
  /-- `RES 4,L`, 0xCBA5, R628. -/
  | res4L
  /-- `RES 4,(HL)`, 0xCBA6, R629. -/
  | res4AtHL
  /-- `RES 4,A`, 0xCBA7, R628. -/
  | res4A
  /-- `RES 5,B`, 0xCBA8, R628. -/
  | res5B
  /-- `RES 5,C`, 0xCBA9, R628. -/
  | res5C
  /-- `RES 5,D`, 0xCBAA, R628. -/
  | res5D
  /-- `RES 5,E`, 0xCBAB, R628. -/
  | res5E
  /-- `RES 5,H`, 0xCBAC, R628. -/
  | res5H
  /-- `RES 5,L`, 0xCBAD, R628. -/
  | res5L
  /-- `RES 5,(HL)`, 0xCBAE, R629. -/
  | res5AtHL
  /-- `RES 5,A`, 0xCBAF, R628. -/
  | res5A
  /-- `RES 6,B`, 0xCBB0, R628. -/
  | res6B
  /-- `RES 6,C`, 0xCBB1, R628. -/
  | res6C
  /-- `RES 6,D`, 0xCBB2, R628. -/
  | res6D
  /-- `RES 6,E`, 0xCBB3, R628. -/
  | res6E
  /-- `RES 6,H`, 0xCBB4, R628. -/
  | res6H
  /-- `RES 6,L`, 0xCBB5, R628. -/
  | res6L
  /-- `RES 6,(HL)`, 0xCBB6, R629. -/
  | res6AtHL
  /-- `RES 6,A`, 0xCBB7, R628. -/
  | res6A
  /-- `RES 7,B`, 0xCBB8, R628. -/
  | res7B
  /-- `RES 7,C`, 0xCBB9, R628. -/
  | res7C
  /-- `RES 7,D`, 0xCBBA, R628. -/
  | res7D
  /-- `RES 7,E`, 0xCBBB, R628. -/
  | res7E
  /-- `RES 7,H`, 0xCBBC, R628. -/
  | res7H
  /-- `RES 7,L`, 0xCBBD, R628. -/
  | res7L
  /-- `RES 7,(HL)`, 0xCBBE, R629. -/
  | res7AtHL
  /-- `RES 7,A`, 0xCBBF, R628. -/
  | res7A
  /-- `SET 0,B`, 0xCBC0, R630. -/
  | set0B
  /-- `SET 0,C`, 0xCBC1, R630. -/
  | set0C
  /-- `SET 0,D`, 0xCBC2, R630. -/
  | set0D
  /-- `SET 0,E`, 0xCBC3, R630. -/
  | set0E
  /-- `SET 0,H`, 0xCBC4, R630. -/
  | set0H
  /-- `SET 0,L`, 0xCBC5, R630. -/
  | set0L
  /-- `SET 0,(HL)`, 0xCBC6, R631. -/
  | set0AtHL
  /-- `SET 0,A`, 0xCBC7, R630. -/
  | set0A
  /-- `SET 1,B`, 0xCBC8, R630. -/
  | set1B
  /-- `SET 1,C`, 0xCBC9, R630. -/
  | set1C
  /-- `SET 1,D`, 0xCBCA, R630. -/
  | set1D
  /-- `SET 1,E`, 0xCBCB, R630. -/
  | set1E
  /-- `SET 1,H`, 0xCBCC, R630. -/
  | set1H
  /-- `SET 1,L`, 0xCBCD, R630. -/
  | set1L
  /-- `SET 1,(HL)`, 0xCBCE, R631. -/
  | set1AtHL
  /-- `SET 1,A`, 0xCBCF, R630. -/
  | set1A
  /-- `SET 2,B`, 0xCBD0, R630. -/
  | set2B
  /-- `SET 2,C`, 0xCBD1, R630. -/
  | set2C
  /-- `SET 2,D`, 0xCBD2, R630. -/
  | set2D
  /-- `SET 2,E`, 0xCBD3, R630. -/
  | set2E
  /-- `SET 2,H`, 0xCBD4, R630. -/
  | set2H
  /-- `SET 2,L`, 0xCBD5, R630. -/
  | set2L
  /-- `SET 2,(HL)`, 0xCBD6, R631. -/
  | set2AtHL
  /-- `SET 2,A`, 0xCBD7, R630. -/
  | set2A
  /-- `SET 3,B`, 0xCBD8, R630. -/
  | set3B
  /-- `SET 3,C`, 0xCBD9, R630. -/
  | set3C
  /-- `SET 3,D`, 0xCBDA, R630. -/
  | set3D
  /-- `SET 3,E`, 0xCBDB, R630. -/
  | set3E
  /-- `SET 3,H`, 0xCBDC, R630. -/
  | set3H
  /-- `SET 3,L`, 0xCBDD, R630. -/
  | set3L
  /-- `SET 3,(HL)`, 0xCBDE, R631. -/
  | set3AtHL
  /-- `SET 3,A`, 0xCBDF, R630. -/
  | set3A
  /-- `SET 4,B`, 0xCBE0, R630. -/
  | set4B
  /-- `SET 4,C`, 0xCBE1, R630. -/
  | set4C
  /-- `SET 4,D`, 0xCBE2, R630. -/
  | set4D
  /-- `SET 4,E`, 0xCBE3, R630. -/
  | set4E
  /-- `SET 4,H`, 0xCBE4, R630. -/
  | set4H
  /-- `SET 4,L`, 0xCBE5, R630. -/
  | set4L
  /-- `SET 4,(HL)`, 0xCBE6, R631. -/
  | set4AtHL
  /-- `SET 4,A`, 0xCBE7, R630. -/
  | set4A
  /-- `SET 5,B`, 0xCBE8, R630. -/
  | set5B
  /-- `SET 5,C`, 0xCBE9, R630. -/
  | set5C
  /-- `SET 5,D`, 0xCBEA, R630. -/
  | set5D
  /-- `SET 5,E`, 0xCBEB, R630. -/
  | set5E
  /-- `SET 5,H`, 0xCBEC, R630. -/
  | set5H
  /-- `SET 5,L`, 0xCBED, R630. -/
  | set5L
  /-- `SET 5,(HL)`, 0xCBEE, R631. -/
  | set5AtHL
  /-- `SET 5,A`, 0xCBEF, R630. -/
  | set5A
  /-- `SET 6,B`, 0xCBF0, R630. -/
  | set6B
  /-- `SET 6,C`, 0xCBF1, R630. -/
  | set6C
  /-- `SET 6,D`, 0xCBF2, R630. -/
  | set6D
  /-- `SET 6,E`, 0xCBF3, R630. -/
  | set6E
  /-- `SET 6,H`, 0xCBF4, R630. -/
  | set6H
  /-- `SET 6,L`, 0xCBF5, R630. -/
  | set6L
  /-- `SET 6,(HL)`, 0xCBF6, R631. -/
  | set6AtHL
  /-- `SET 6,A`, 0xCBF7, R630. -/
  | set6A
  /-- `SET 7,B`, 0xCBF8, R630. -/
  | set7B
  /-- `SET 7,C`, 0xCBF9, R630. -/
  | set7C
  /-- `SET 7,D`, 0xCBFA, R630. -/
  | set7D
  /-- `SET 7,E`, 0xCBFB, R630. -/
  | set7E
  /-- `SET 7,H`, 0xCBFC, R630. -/
  | set7H
  /-- `SET 7,L`, 0xCBFD, R630. -/
  | set7L
  /-- `SET 7,(HL)`, 0xCBFE, R631. -/
  | set7AtHL
  /-- `SET 7,A`, 0xCBFF, R630. -/
  | set7A
  deriving DecidableEq, Repr

/-- What the first byte of an instruction leaves to be read (the formats of R120): nothing more, one
immediate byte, two immediate bytes, or the second byte of the extended page. -/
inductive Pattern where
  | whole (i : Instr)
  | imm8 (f : Byte → Instr)
  | imm16 (f : Word → Instr)
  | extended

/-- Why `decode` rejects a byte sequence. Every first byte starts an instruction (R138), so bytes can only
be missing. -/
inductive DecodeError where
  /-- There is no first byte. -/
  | noOpcode
  /-- The instruction that starts with `op` needs more bytes than there are (R130). -/
  | truncated (op : Byte)
  deriving DecidableEq, Repr

end Sys2Proof
end

