-- ==== Sys2Proof/Decode.lean ====
section
/-! DEFINITION. Decoding and encoding (30_encoding.md). The decoder follows the field tables of R121 to R129
and the quarter tables R131 to R135; the encoder is written row by row from spec/opcode_table.json, so that
their agreement says something. Also here: the byte order of a word, the instruction lengths (R130), and the
reading of an opcode-table row for the host. -/

namespace Sys2Proof

/-! ### Byte order (R6, R86) -/

/-- `hi:lo`, the word `hi * 256 + lo` (R6). -/
def wordOf (hi lo : Byte) : Word := BitVec.ofNat 16 (hi.toNat * 256 + lo.toNat)

/-- `v[15:8]` (R6). -/
def hiByte (v : Word) : Byte := BitVec.ofNat 8 (v.toNat / 256)

/-- `v[7:0]` (R6). -/
def loByte (v : Word) : Byte := BitVec.ofNat 8 v.toNat

/-! ### The fields of an opcode byte (R121, R122) -/

/-- `x = op[7:6]`. -/
def fieldX (op : Byte) : Nat := op.toNat / 64
/-- `y = op[5:3]`. -/
def fieldY (op : Byte) : Nat := op.toNat / 8 % 8
/-- `z = op[2:0]`. -/
def fieldZ (op : Byte) : Nat := op.toNat % 8

/-! ### The operand tables (R123 to R129), by index -/

/-- The table `r8` (R123). -/
def tableR8 (i : Nat) : Operand8 :=
  match i with
  | 0 => .reg .b
  | 1 => .reg .c
  | 2 => .reg .d
  | 3 => .reg .e
  | 4 => .reg .h
  | 5 => .reg .l
  | 6 => .atHL
  | _ => .reg .a

/-- The table `rp` (R124). -/
def tableRp (i : Nat) : Pair :=
  match i with
  | 0 => .bc
  | 1 => .de
  | 2 => .hl
  | _ => .sp

/-- The table `rp2` (R125). -/
def tableRp2 (i : Nat) : StackPair :=
  match i with
  | 0 => .bc
  | 1 => .de
  | 2 => .hl
  | _ => .af

/-- The table `cc` (R126). -/
def tableCc (i : Nat) : Cond :=
  match i with
  | 0 => .nz
  | 1 => .z
  | 2 => .nc
  | _ => .c

/-- The table `alu` (R127). -/
def tableAlu (i : Nat) : AluOp :=
  match i with
  | 0 => .add
  | 1 => .adc
  | 2 => .sub
  | 3 => .sbc
  | 4 => .and
  | 5 => .xor
  | 6 => .or
  | _ => .cp

/-- The table `rot` (R129). -/
def tableRot (i : Nat) : RotOp :=
  match i with
  | 0 => .rlc
  | 1 => .rrc
  | 2 => .rl
  | 3 => .rr
  | 4 => .sla
  | 5 => .sra
  | 6 => .swap
  | _ => .srl

/-! ### The families of the opcode map: from operands to the instruction -/

/-- `LD r8,r8'` (R300): opcode 0x40 + 8 dst + src, neither index 6. -/
def mkLd (dst src : Reg8) : Instr :=
  match dst, src with
  | .b, .b => .ldBB
  | .b, .c => .ldBC
  | .b, .d => .ldBD
  | .b, .e => .ldBE
  | .b, .h => .ldBH
  | .b, .l => .ldBL
  | .b, .a => .ldBA
  | .c, .b => .ldCB
  | .c, .c => .ldCC
  | .c, .d => .ldCD
  | .c, .e => .ldCE
  | .c, .h => .ldCH
  | .c, .l => .ldCL
  | .c, .a => .ldCA
  | .d, .b => .ldDB
  | .d, .c => .ldDC
  | .d, .d => .ldDD
  | .d, .e => .ldDE
  | .d, .h => .ldDH
  | .d, .l => .ldDL
  | .d, .a => .ldDA
  | .e, .b => .ldEB
  | .e, .c => .ldEC
  | .e, .d => .ldED
  | .e, .e => .ldEE
  | .e, .h => .ldEH
  | .e, .l => .ldEL
  | .e, .a => .ldEA
  | .h, .b => .ldHB
  | .h, .c => .ldHC
  | .h, .d => .ldHD
  | .h, .e => .ldHE
  | .h, .h => .ldHH
  | .h, .l => .ldHL
  | .h, .a => .ldHA
  | .l, .b => .ldLB
  | .l, .c => .ldLC
  | .l, .d => .ldLD
  | .l, .e => .ldLE
  | .l, .h => .ldLH
  | .l, .l => .ldLL
  | .l, .a => .ldLA
  | .a, .b => .ldAB
  | .a, .c => .ldAC
  | .a, .d => .ldAD
  | .a, .e => .ldAE
  | .a, .h => .ldAH
  | .a, .l => .ldAL
  | .a, .a => .ldAA

/-- `LD r8,(HL)` (R301). -/
def mkLdFromHL (dst : Reg8) : Instr :=
  match dst with
  | .b => .ldBAtHL
  | .c => .ldCAtHL
  | .d => .ldDAtHL
  | .e => .ldEAtHL
  | .h => .ldHAtHL
  | .l => .ldLAtHL
  | .a => .ldAAtHL

/-- `LD (HL),r8` (R302). -/
def mkLdToHL (src : Reg8) : Instr :=
  match src with
  | .b => .ldAtHLB
  | .c => .ldAtHLC
  | .d => .ldAtHLD
  | .e => .ldAtHLE
  | .h => .ldAtHLH
  | .l => .ldAtHLL
  | .a => .ldAtHLA

/-- `LD r8,n8` (R303). -/
def mkLdImm (dst : Reg8) (n : Byte) : Instr :=
  match dst with
  | .b => .ldBN8 n
  | .c => .ldCN8 n
  | .d => .ldDN8 n
  | .e => .ldEN8 n
  | .h => .ldHN8 n
  | .l => .ldLN8 n
  | .a => .ldAN8 n

/-- `INC r8` and `INC (HL)` (R234, R235). -/
def mkInc (x : Operand8) : Instr :=
  match x with
  | .reg .b => .incB
  | .reg .c => .incC
  | .reg .d => .incD
  | .reg .e => .incE
  | .reg .h => .incH
  | .reg .l => .incL
  | .reg .a => .incA
  | .atHL => .incAtHL

/-- `DEC r8` and `DEC (HL)` (R236, R237). -/
def mkDec (x : Operand8) : Instr :=
  match x with
  | .reg .b => .decB
  | .reg .c => .decC
  | .reg .d => .decD
  | .reg .e => .decE
  | .reg .h => .decH
  | .reg .l => .decL
  | .reg .a => .decA
  | .atHL => .decAtHL

/-- `LD rr,n16` (R319). -/
def mkLdPair (p : Pair) (n : Word) : Instr :=
  match p with
  | .bc => .ldBCN16 n
  | .de => .ldDEN16 n
  | .hl => .ldHLN16 n
  | .sp => .ldSPN16 n

/-- `ADD HL,rr` (R404). -/
def mkAddHL (p : Pair) : Instr :=
  match p with
  | .bc => .addHLBC
  | .de => .addHLDE
  | .hl => .addHLHL
  | .sp => .addHLSP

/-- `INC rr` (R402). -/
def mkIncPair (p : Pair) : Instr :=
  match p with
  | .bc => .incBC
  | .de => .incDE
  | .hl => .incHL
  | .sp => .incSP

/-- `DEC rr` (R403). -/
def mkDecPair (p : Pair) : Instr :=
  match p with
  | .bc => .decBC
  | .de => .decDE
  | .hl => .decHL
  | .sp => .decSP

/-- `PUSH rr` (R322, R323). -/
def mkPush (p : StackPair) : Instr :=
  match p with
  | .bc => .pushBC
  | .de => .pushDE
  | .hl => .pushHL
  | .af => .pushAF

/-- `POP rr` (R324, R325). -/
def mkPop (p : StackPair) : Instr :=
  match p with
  | .bc => .popBC
  | .de => .popDE
  | .hl => .popHL
  | .af => .popAF

/-- The accumulator family on a register or on `(HL)` (R133, R210 to R232): opcode 0x80 + 8 op + z. -/
def mkAlu (op : AluOp) (x : Operand8) : Instr :=
  match op, x with
  | .add, .reg .b => .addAB
  | .add, .reg .c => .addAC
  | .add, .reg .d => .addAD
  | .add, .reg .e => .addAE
  | .add, .reg .h => .addAH
  | .add, .reg .l => .addAL
  | .add, .reg .a => .addAA
  | .adc, .reg .b => .adcAB
  | .adc, .reg .c => .adcAC
  | .adc, .reg .d => .adcAD
  | .adc, .reg .e => .adcAE
  | .adc, .reg .h => .adcAH
  | .adc, .reg .l => .adcAL
  | .adc, .reg .a => .adcAA
  | .sub, .reg .b => .subB
  | .sub, .reg .c => .subC
  | .sub, .reg .d => .subD
  | .sub, .reg .e => .subE
  | .sub, .reg .h => .subH
  | .sub, .reg .l => .subL
  | .sub, .reg .a => .subA
  | .sbc, .reg .b => .sbcAB
  | .sbc, .reg .c => .sbcAC
  | .sbc, .reg .d => .sbcAD
  | .sbc, .reg .e => .sbcAE
  | .sbc, .reg .h => .sbcAH
  | .sbc, .reg .l => .sbcAL
  | .sbc, .reg .a => .sbcAA
  | .and, .reg .b => .andB
  | .and, .reg .c => .andC
  | .and, .reg .d => .andD
  | .and, .reg .e => .andE
  | .and, .reg .h => .andH
  | .and, .reg .l => .andL
  | .and, .reg .a => .andA
  | .xor, .reg .b => .xorB
  | .xor, .reg .c => .xorC
  | .xor, .reg .d => .xorD
  | .xor, .reg .e => .xorE
  | .xor, .reg .h => .xorH
  | .xor, .reg .l => .xorL
  | .xor, .reg .a => .xorA
  | .or, .reg .b => .orB
  | .or, .reg .c => .orC
  | .or, .reg .d => .orD
  | .or, .reg .e => .orE
  | .or, .reg .h => .orH
  | .or, .reg .l => .orL
  | .or, .reg .a => .orA
  | .cp, .reg .b => .cpB
  | .cp, .reg .c => .cpC
  | .cp, .reg .d => .cpD
  | .cp, .reg .e => .cpE
  | .cp, .reg .h => .cpH
  | .cp, .reg .l => .cpL
  | .cp, .reg .a => .cpA
  | .add, .atHL => .addAAtHL
  | .adc, .atHL => .adcAAtHL
  | .sub, .atHL => .subAtHL
  | .sbc, .atHL => .sbcAAtHL
  | .and, .atHL => .andAtHL
  | .xor, .atHL => .xorAtHL
  | .or, .atHL => .orAtHL
  | .cp, .atHL => .cpAtHL

/-- The accumulator family on an immediate (R134 row 6). -/
def mkAluImm (op : AluOp) (n : Byte) : Instr :=
  match op with
  | .add => .addAN8 n
  | .adc => .adcAN8 n
  | .sub => .subN8 n
  | .sbc => .sbcAN8 n
  | .and => .andN8 n
  | .xor => .xorN8 n
  | .or => .orN8 n
  | .cp => .cpN8 n

/-- The extended rotates, shifts and swap (R135, x = 0). -/
def mkRot (op : RotOp) (x : Operand8) : Instr :=
  match op, x with
  | .rlc, .reg .b => .rlcB
  | .rlc, .reg .c => .rlcC
  | .rlc, .reg .d => .rlcD
  | .rlc, .reg .e => .rlcE
  | .rlc, .reg .h => .rlcH
  | .rlc, .reg .l => .rlcL
  | .rlc, .reg .a => .rlcA
  | .rrc, .reg .b => .rrcB
  | .rrc, .reg .c => .rrcC
  | .rrc, .reg .d => .rrcD
  | .rrc, .reg .e => .rrcE
  | .rrc, .reg .h => .rrcH
  | .rrc, .reg .l => .rrcL
  | .rrc, .reg .a => .rrcA
  | .rl, .reg .b => .rlB
  | .rl, .reg .c => .rlC
  | .rl, .reg .d => .rlD
  | .rl, .reg .e => .rlE
  | .rl, .reg .h => .rlH
  | .rl, .reg .l => .rlL
  | .rl, .reg .a => .rlA
  | .rr, .reg .b => .rrB
  | .rr, .reg .c => .rrC
  | .rr, .reg .d => .rrD
  | .rr, .reg .e => .rrE
  | .rr, .reg .h => .rrH
  | .rr, .reg .l => .rrL
  | .rr, .reg .a => .rrA
  | .sla, .reg .b => .slaB
  | .sla, .reg .c => .slaC
  | .sla, .reg .d => .slaD
  | .sla, .reg .e => .slaE
  | .sla, .reg .h => .slaH
  | .sla, .reg .l => .slaL
  | .sla, .reg .a => .slaA
  | .sra, .reg .b => .sraB
  | .sra, .reg .c => .sraC
  | .sra, .reg .d => .sraD
  | .sra, .reg .e => .sraE
  | .sra, .reg .h => .sraH
  | .sra, .reg .l => .sraL
  | .sra, .reg .a => .sraA
  | .swap, .reg .b => .swapB
  | .swap, .reg .c => .swapC
  | .swap, .reg .d => .swapD
  | .swap, .reg .e => .swapE
  | .swap, .reg .h => .swapH
  | .swap, .reg .l => .swapL
  | .swap, .reg .a => .swapA
  | .srl, .reg .b => .srlB
  | .srl, .reg .c => .srlC
  | .srl, .reg .d => .srlD
  | .srl, .reg .e => .srlE
  | .srl, .reg .h => .srlH
  | .srl, .reg .l => .srlL
  | .srl, .reg .a => .srlA
  | .rlc, .atHL => .rlcAtHL
  | .rrc, .atHL => .rrcAtHL
  | .rl, .atHL => .rlAtHL
  | .rr, .atHL => .rrAtHL
  | .sla, .atHL => .slaAtHL
  | .sra, .atHL => .sraAtHL
  | .swap, .atHL => .swapAtHL
  | .srl, .atHL => .srlAtHL

/-- `BIT b,r8` and `BIT b,(HL)` (R135, x = 1): the bit number `b` is 0 to 7. -/
def mkBit (b : Fin 8) (x : Operand8) : Instr :=
  match b.val, x with
  | 0, .reg .b => .bit0B
  | 0, .reg .c => .bit0C
  | 0, .reg .d => .bit0D
  | 0, .reg .e => .bit0E
  | 0, .reg .h => .bit0H
  | 0, .reg .l => .bit0L
  | 0, .reg .a => .bit0A
  | 0, .atHL => .bit0AtHL
  | 1, .reg .b => .bit1B
  | 1, .reg .c => .bit1C
  | 1, .reg .d => .bit1D
  | 1, .reg .e => .bit1E
  | 1, .reg .h => .bit1H
  | 1, .reg .l => .bit1L
  | 1, .reg .a => .bit1A
  | 1, .atHL => .bit1AtHL
  | 2, .reg .b => .bit2B
  | 2, .reg .c => .bit2C
  | 2, .reg .d => .bit2D
  | 2, .reg .e => .bit2E
  | 2, .reg .h => .bit2H
  | 2, .reg .l => .bit2L
  | 2, .reg .a => .bit2A
  | 2, .atHL => .bit2AtHL
  | 3, .reg .b => .bit3B
  | 3, .reg .c => .bit3C
  | 3, .reg .d => .bit3D
  | 3, .reg .e => .bit3E
  | 3, .reg .h => .bit3H
  | 3, .reg .l => .bit3L
  | 3, .reg .a => .bit3A
  | 3, .atHL => .bit3AtHL
  | 4, .reg .b => .bit4B
  | 4, .reg .c => .bit4C
  | 4, .reg .d => .bit4D
  | 4, .reg .e => .bit4E
  | 4, .reg .h => .bit4H
  | 4, .reg .l => .bit4L
  | 4, .reg .a => .bit4A
  | 4, .atHL => .bit4AtHL
  | 5, .reg .b => .bit5B
  | 5, .reg .c => .bit5C
  | 5, .reg .d => .bit5D
  | 5, .reg .e => .bit5E
  | 5, .reg .h => .bit5H
  | 5, .reg .l => .bit5L
  | 5, .reg .a => .bit5A
  | 5, .atHL => .bit5AtHL
  | 6, .reg .b => .bit6B
  | 6, .reg .c => .bit6C
  | 6, .reg .d => .bit6D
  | 6, .reg .e => .bit6E
  | 6, .reg .h => .bit6H
  | 6, .reg .l => .bit6L
  | 6, .reg .a => .bit6A
  | 6, .atHL => .bit6AtHL
  | _, .reg .b => .bit7B
  | _, .reg .c => .bit7C
  | _, .reg .d => .bit7D
  | _, .reg .e => .bit7E
  | _, .reg .h => .bit7H
  | _, .reg .l => .bit7L
  | _, .reg .a => .bit7A
  | _, .atHL => .bit7AtHL

/-- `RES b,r8` and `RES b,(HL)` (R135, x = 2): the bit number `b` is 0 to 7. -/
def mkRes (b : Fin 8) (x : Operand8) : Instr :=
  match b.val, x with
  | 0, .reg .b => .res0B
  | 0, .reg .c => .res0C
  | 0, .reg .d => .res0D
  | 0, .reg .e => .res0E
  | 0, .reg .h => .res0H
  | 0, .reg .l => .res0L
  | 0, .reg .a => .res0A
  | 0, .atHL => .res0AtHL
  | 1, .reg .b => .res1B
  | 1, .reg .c => .res1C
  | 1, .reg .d => .res1D
  | 1, .reg .e => .res1E
  | 1, .reg .h => .res1H
  | 1, .reg .l => .res1L
  | 1, .reg .a => .res1A
  | 1, .atHL => .res1AtHL
  | 2, .reg .b => .res2B
  | 2, .reg .c => .res2C
  | 2, .reg .d => .res2D
  | 2, .reg .e => .res2E
  | 2, .reg .h => .res2H
  | 2, .reg .l => .res2L
  | 2, .reg .a => .res2A
  | 2, .atHL => .res2AtHL
  | 3, .reg .b => .res3B
  | 3, .reg .c => .res3C
  | 3, .reg .d => .res3D
  | 3, .reg .e => .res3E
  | 3, .reg .h => .res3H
  | 3, .reg .l => .res3L
  | 3, .reg .a => .res3A
  | 3, .atHL => .res3AtHL
  | 4, .reg .b => .res4B
  | 4, .reg .c => .res4C
  | 4, .reg .d => .res4D
  | 4, .reg .e => .res4E
  | 4, .reg .h => .res4H
  | 4, .reg .l => .res4L
  | 4, .reg .a => .res4A
  | 4, .atHL => .res4AtHL
  | 5, .reg .b => .res5B
  | 5, .reg .c => .res5C
  | 5, .reg .d => .res5D
  | 5, .reg .e => .res5E
  | 5, .reg .h => .res5H
  | 5, .reg .l => .res5L
  | 5, .reg .a => .res5A
  | 5, .atHL => .res5AtHL
  | 6, .reg .b => .res6B
  | 6, .reg .c => .res6C
  | 6, .reg .d => .res6D
  | 6, .reg .e => .res6E
  | 6, .reg .h => .res6H
  | 6, .reg .l => .res6L
  | 6, .reg .a => .res6A
  | 6, .atHL => .res6AtHL
  | _, .reg .b => .res7B
  | _, .reg .c => .res7C
  | _, .reg .d => .res7D
  | _, .reg .e => .res7E
  | _, .reg .h => .res7H
  | _, .reg .l => .res7L
  | _, .reg .a => .res7A
  | _, .atHL => .res7AtHL

/-- `SET b,r8` and `SET b,(HL)` (R135, x = 3): the bit number `b` is 0 to 7. -/
def mkSet (b : Fin 8) (x : Operand8) : Instr :=
  match b.val, x with
  | 0, .reg .b => .set0B
  | 0, .reg .c => .set0C
  | 0, .reg .d => .set0D
  | 0, .reg .e => .set0E
  | 0, .reg .h => .set0H
  | 0, .reg .l => .set0L
  | 0, .reg .a => .set0A
  | 0, .atHL => .set0AtHL
  | 1, .reg .b => .set1B
  | 1, .reg .c => .set1C
  | 1, .reg .d => .set1D
  | 1, .reg .e => .set1E
  | 1, .reg .h => .set1H
  | 1, .reg .l => .set1L
  | 1, .reg .a => .set1A
  | 1, .atHL => .set1AtHL
  | 2, .reg .b => .set2B
  | 2, .reg .c => .set2C
  | 2, .reg .d => .set2D
  | 2, .reg .e => .set2E
  | 2, .reg .h => .set2H
  | 2, .reg .l => .set2L
  | 2, .reg .a => .set2A
  | 2, .atHL => .set2AtHL
  | 3, .reg .b => .set3B
  | 3, .reg .c => .set3C
  | 3, .reg .d => .set3D
  | 3, .reg .e => .set3E
  | 3, .reg .h => .set3H
  | 3, .reg .l => .set3L
  | 3, .reg .a => .set3A
  | 3, .atHL => .set3AtHL
  | 4, .reg .b => .set4B
  | 4, .reg .c => .set4C
  | 4, .reg .d => .set4D
  | 4, .reg .e => .set4E
  | 4, .reg .h => .set4H
  | 4, .reg .l => .set4L
  | 4, .reg .a => .set4A
  | 4, .atHL => .set4AtHL
  | 5, .reg .b => .set5B
  | 5, .reg .c => .set5C
  | 5, .reg .d => .set5D
  | 5, .reg .e => .set5E
  | 5, .reg .h => .set5H
  | 5, .reg .l => .set5L
  | 5, .reg .a => .set5A
  | 5, .atHL => .set5AtHL
  | 6, .reg .b => .set6B
  | 6, .reg .c => .set6C
  | 6, .reg .d => .set6D
  | 6, .reg .e => .set6E
  | 6, .reg .h => .set6H
  | 6, .reg .l => .set6L
  | 6, .reg .a => .set6A
  | 6, .atHL => .set6AtHL
  | _, .reg .b => .set7B
  | _, .reg .c => .set7C
  | _, .reg .d => .set7D
  | _, .reg .e => .set7E
  | _, .reg .h => .set7H
  | _, .reg .l => .set7L
  | _, .reg .a => .set7A
  | _, .atHL => .set7AtHL

/-- `JP cc,a16` (R501). -/
def mkJp (k : Cond) (t : Word) : Instr :=
  match k with
  | .nz => .jpNZA16 t
  | .z => .jpZA16 t
  | .nc => .jpNCA16 t
  | .c => .jpCA16 t

/-- `JR cc,e8` (R504). -/
def mkJr (k : Cond) (e : Byte) : Instr :=
  match k with
  | .nz => .jrNZE8 e
  | .z => .jrZE8 e
  | .nc => .jrNCE8 e
  | .c => .jrCE8 e

/-- `CALL cc,a16` (R506). -/
def mkCall (k : Cond) (t : Word) : Instr :=
  match k with
  | .nz => .callNZA16 t
  | .z => .callZA16 t
  | .nc => .callNCA16 t
  | .c => .callCA16 t

/-- `RET cc` (R508). -/
def mkRet (k : Cond) : Instr :=
  match k with
  | .nz => .retNZ
  | .z => .retZ
  | .nc => .retNC
  | .c => .retC

/-- `RST n` (R510): the target is `8 y`. -/
def mkRst (y : Fin 8) : Instr :=
  match y.val with
  | 0 => .rst00
  | 1 => .rst08
  | 2 => .rst10
  | 3 => .rst18
  | 4 => .rst20
  | 5 => .rst28
  | 6 => .rst30
  | _ => .rst38

/-- The load family on two entries of `r8` (R132): a pair of registers, one register and `(HL)`, and, where
both are `(HL)`, `HALT` (0x76; 90_conflicts.md C6). -/
def mkLoad (x y : Operand8) : Instr :=
  match x, y with
  | .reg dst, .reg src => mkLd dst src
  | .reg dst, .atHL => mkLdFromHL dst
  | .atHL, .reg src => mkLdToHL src
  | .atHL, .atHL => .halt

/-- `LD r8[y],n8`: a register (R303) or `(HL)` (R304). -/
def mkLoadImm (x : Operand8) (n : Byte) : Instr :=
  match x with
  | .reg dst => mkLdImm dst n
  | .atHL => .ldAtHLN8 n

/-! ### The opcode map (R131 to R136) -/

/-- Quarter `x = 0` (R131), by `y` and `z`; `p = y / 2` and `q = y % 2` (R121). -/
def quarter0 (y z : Nat) : Pattern :=
  match z with
  | 0 =>
    match y with
    | 0 => .whole .nop
    | 1 => .imm16 .ldAtA16SP
    | 2 => .imm8 .stop
    | 3 => .imm8 .jrE8
    | _ => .imm8 (mkJr (tableCc (y - 4)))
  | 1 => if y % 2 = 0 then .imm16 (mkLdPair (tableRp (y / 2))) else .whole (mkAddHL (tableRp (y / 2)))
  | 2 =>
    match y with
    | 0 => .whole .ldAtBCA
    | 2 => .whole .ldAtDEA
    | 4 => .whole .ldAtHLIncA
    | 6 => .whole .ldAtHLDecA
    | 1 => .whole .ldAAtBC
    | 3 => .whole .ldAAtDE
    | 5 => .whole .ldAAtHLInc
    | _ => .whole .ldAAtHLDec
  | 3 => .whole (if y % 2 = 0 then mkIncPair (tableRp (y / 2)) else mkDecPair (tableRp (y / 2)))
  | 4 => .whole (mkInc (tableR8 y))
  | 5 => .whole (mkDec (tableR8 y))
  | 6 => .imm8 (mkLoadImm (tableR8 y))
  | _ =>
    match y with
    | 0 => .whole .rlca
    | 1 => .whole .rrca
    | 2 => .whole .rla
    | 3 => .whole .rra
    | 4 => .whole .daa
    | 5 => .whole .cpl
    | 6 => .whole .scf
    | _ => .whole .ccf

/-- Quarter `x = 3` (R134), with the illegal bytes of R136 in their places. -/
def quarter3 (y z : Nat) : Pattern :=
  match z with
  | 0 =>
    match y with
    | 4 => .imm8 .ldhAtA8A
    | 5 => .imm8 .addSPE8
    | 6 => .imm8 .ldhAAtA8
    | 7 => .imm8 .ldHLSPE8
    | _ => .whole (mkRet (tableCc y))
  | 1 =>
    match y with
    | 1 => .whole .ret
    | 3 => .whole .reti
    | 5 => .whole .jpHL
    | 7 => .whole .ldSPHL
    | _ => .whole (mkPop (tableRp2 (y / 2)))
  | 2 =>
    match y with
    | 4 => .whole .ldhAtCA
    | 5 => .imm16 .ldAtA16A
    | 6 => .whole .ldhAAtC
    | 7 => .imm16 .ldAAtA16
    | _ => .imm16 (mkJp (tableCc y))
  | 3 =>
    match y with
    | 0 => .imm16 .jpA16
    | 1 => .extended
    | 2 => .whole .illegalD3
    | 3 => .whole .illegalDB
    | 4 => .whole .illegalE3
    | 5 => .whole .illegalEB
    | 6 => .whole .di
    | _ => .whole .ei
  | 4 =>
    match y with
    | 4 => .whole .illegalE4
    | 5 => .whole .illegalEC
    | 6 => .whole .illegalF4
    | 7 => .whole .illegalFC
    | _ => .imm16 (mkCall (tableCc y))
  | 5 =>
    match y with
    | 1 => .imm16 .callA16
    | 3 => .whole .illegalDD
    | 5 => .whole .illegalED
    | 7 => .whole .illegalFD
    | _ => .whole (mkPush (tableRp2 (y / 2)))
  | 6 => .imm8 (mkAluImm (tableAlu y))
  | _ => .whole (mkRst (Fin.ofNat 8 y))

/-- The unprefixed page by its first byte (R131 to R134): total, with no wildcard fall-through from a
reserved encoding to a neighbour, since R137 says there is no reserved encoding. -/
def decodeFirst (op : Byte) : Pattern :=
  match fieldX op with
  | 0 => quarter0 (fieldY op) (fieldZ op)
  | 1 => .whole (mkLoad (tableR8 (fieldY op)) (tableR8 (fieldZ op)))
  | 2 => .whole (mkAlu (tableAlu (fieldY op)) (tableR8 (fieldZ op)))
  | _ => quarter3 (fieldY op) (fieldZ op)

/-- The extended page by its second byte (R122, R135): all 256 values are instructions. -/
def decodeExtended (cbop : Byte) : Instr :=
  match fieldX cbop with
  | 0 => mkRot (tableRot (fieldY cbop)) (tableR8 (fieldZ cbop))
  | 1 => mkBit (Fin.ofNat 8 (fieldY cbop)) (tableR8 (fieldZ cbop))
  | 2 => mkRes (Fin.ofNat 8 (fieldY cbop)) (tableR8 (fieldZ cbop))
  | _ => mkSet (Fin.ofNat 8 (fieldY cbop)) (tableR8 (fieldZ cbop))

/-- Decoding, total on any bytes: the instruction at the head of the bytes and the bytes after it, or the
name of what is missing. -/
def decode (bytes : List Byte) : Except DecodeError (Instr × List Byte) :=
  match bytes with
  | [] => .error .noOpcode
  | op :: rest =>
    match decodeFirst op, rest with
    | .whole i, _ => .ok (i, rest)
    | .imm8 f, n :: rest => .ok (f n, rest)
    | .imm16 f, lo :: hi :: rest => .ok (f (wordOf hi lo), rest)
    | .extended, cbop :: rest => .ok (decodeExtended cbop, rest)
    | _, _ => .error (.truncated op)

/-! ### Encoding -/

/-- The bytes of an instruction, row by row from spec/opcode_table.json: the opcode byte (or `0xCB` and the
extended opcode), then its immediate, a word low byte first (R120). -/
def encode (i : Instr) : List Byte :=
  match i with
  | .nop => [0x00]
  | .ldBCN16 n => [0x01, loByte n, hiByte n]
  | .ldAtBCA => [0x02]
  | .incBC => [0x03]
  | .incB => [0x04]
  | .decB => [0x05]
  | .ldBN8 n => [0x06, n]
  | .rlca => [0x07]
  | .ldAtA16SP n => [0x08, loByte n, hiByte n]
  | .addHLBC => [0x09]
  | .ldAAtBC => [0x0A]
  | .decBC => [0x0B]
  | .incC => [0x0C]
  | .decC => [0x0D]
  | .ldCN8 n => [0x0E, n]
  | .rrca => [0x0F]
  | .stop n => [0x10, n]
  | .ldDEN16 n => [0x11, loByte n, hiByte n]
  | .ldAtDEA => [0x12]
  | .incDE => [0x13]
  | .incD => [0x14]
  | .decD => [0x15]
  | .ldDN8 n => [0x16, n]
  | .rla => [0x17]
  | .jrE8 n => [0x18, n]
  | .addHLDE => [0x19]
  | .ldAAtDE => [0x1A]
  | .decDE => [0x1B]
  | .incE => [0x1C]
  | .decE => [0x1D]
  | .ldEN8 n => [0x1E, n]
  | .rra => [0x1F]
  | .jrNZE8 n => [0x20, n]
  | .ldHLN16 n => [0x21, loByte n, hiByte n]
  | .ldAtHLIncA => [0x22]
  | .incHL => [0x23]
  | .incH => [0x24]
  | .decH => [0x25]
  | .ldHN8 n => [0x26, n]
  | .daa => [0x27]
  | .jrZE8 n => [0x28, n]
  | .addHLHL => [0x29]
  | .ldAAtHLInc => [0x2A]
  | .decHL => [0x2B]
  | .incL => [0x2C]
  | .decL => [0x2D]
  | .ldLN8 n => [0x2E, n]
  | .cpl => [0x2F]
  | .jrNCE8 n => [0x30, n]
  | .ldSPN16 n => [0x31, loByte n, hiByte n]
  | .ldAtHLDecA => [0x32]
  | .incSP => [0x33]
  | .incAtHL => [0x34]
  | .decAtHL => [0x35]
  | .ldAtHLN8 n => [0x36, n]
  | .scf => [0x37]
  | .jrCE8 n => [0x38, n]
  | .addHLSP => [0x39]
  | .ldAAtHLDec => [0x3A]
  | .decSP => [0x3B]
  | .incA => [0x3C]
  | .decA => [0x3D]
  | .ldAN8 n => [0x3E, n]
  | .ccf => [0x3F]
  | .ldBB => [0x40]
  | .ldBC => [0x41]
  | .ldBD => [0x42]
  | .ldBE => [0x43]
  | .ldBH => [0x44]
  | .ldBL => [0x45]
  | .ldBAtHL => [0x46]
  | .ldBA => [0x47]
  | .ldCB => [0x48]
  | .ldCC => [0x49]
  | .ldCD => [0x4A]
  | .ldCE => [0x4B]
  | .ldCH => [0x4C]
  | .ldCL => [0x4D]
  | .ldCAtHL => [0x4E]
  | .ldCA => [0x4F]
  | .ldDB => [0x50]
  | .ldDC => [0x51]
  | .ldDD => [0x52]
  | .ldDE => [0x53]
  | .ldDH => [0x54]
  | .ldDL => [0x55]
  | .ldDAtHL => [0x56]
  | .ldDA => [0x57]
  | .ldEB => [0x58]
  | .ldEC => [0x59]
  | .ldED => [0x5A]
  | .ldEE => [0x5B]
  | .ldEH => [0x5C]
  | .ldEL => [0x5D]
  | .ldEAtHL => [0x5E]
  | .ldEA => [0x5F]
  | .ldHB => [0x60]
  | .ldHC => [0x61]
  | .ldHD => [0x62]
  | .ldHE => [0x63]
  | .ldHH => [0x64]
  | .ldHL => [0x65]
  | .ldHAtHL => [0x66]
  | .ldHA => [0x67]
  | .ldLB => [0x68]
  | .ldLC => [0x69]
  | .ldLD => [0x6A]
  | .ldLE => [0x6B]
  | .ldLH => [0x6C]
  | .ldLL => [0x6D]
  | .ldLAtHL => [0x6E]
  | .ldLA => [0x6F]
  | .ldAtHLB => [0x70]
  | .ldAtHLC => [0x71]
  | .ldAtHLD => [0x72]
  | .ldAtHLE => [0x73]
  | .ldAtHLH => [0x74]
  | .ldAtHLL => [0x75]
  | .halt => [0x76]
  | .ldAtHLA => [0x77]
  | .ldAB => [0x78]
  | .ldAC => [0x79]
  | .ldAD => [0x7A]
  | .ldAE => [0x7B]
  | .ldAH => [0x7C]
  | .ldAL => [0x7D]
  | .ldAAtHL => [0x7E]
  | .ldAA => [0x7F]
  | .addAB => [0x80]
  | .addAC => [0x81]
  | .addAD => [0x82]
  | .addAE => [0x83]
  | .addAH => [0x84]
  | .addAL => [0x85]
  | .addAAtHL => [0x86]
  | .addAA => [0x87]
  | .adcAB => [0x88]
  | .adcAC => [0x89]
  | .adcAD => [0x8A]
  | .adcAE => [0x8B]
  | .adcAH => [0x8C]
  | .adcAL => [0x8D]
  | .adcAAtHL => [0x8E]
  | .adcAA => [0x8F]
  | .subB => [0x90]
  | .subC => [0x91]
  | .subD => [0x92]
  | .subE => [0x93]
  | .subH => [0x94]
  | .subL => [0x95]
  | .subAtHL => [0x96]
  | .subA => [0x97]
  | .sbcAB => [0x98]
  | .sbcAC => [0x99]
  | .sbcAD => [0x9A]
  | .sbcAE => [0x9B]
  | .sbcAH => [0x9C]
  | .sbcAL => [0x9D]
  | .sbcAAtHL => [0x9E]
  | .sbcAA => [0x9F]
  | .andB => [0xA0]
  | .andC => [0xA1]
  | .andD => [0xA2]
  | .andE => [0xA3]
  | .andH => [0xA4]
  | .andL => [0xA5]
  | .andAtHL => [0xA6]
  | .andA => [0xA7]
  | .xorB => [0xA8]
  | .xorC => [0xA9]
  | .xorD => [0xAA]
  | .xorE => [0xAB]
  | .xorH => [0xAC]
  | .xorL => [0xAD]
  | .xorAtHL => [0xAE]
  | .xorA => [0xAF]
  | .orB => [0xB0]
  | .orC => [0xB1]
  | .orD => [0xB2]
  | .orE => [0xB3]
  | .orH => [0xB4]
  | .orL => [0xB5]
  | .orAtHL => [0xB6]
  | .orA => [0xB7]
  | .cpB => [0xB8]
  | .cpC => [0xB9]
  | .cpD => [0xBA]
  | .cpE => [0xBB]
  | .cpH => [0xBC]
  | .cpL => [0xBD]
  | .cpAtHL => [0xBE]
  | .cpA => [0xBF]
  | .retNZ => [0xC0]
  | .popBC => [0xC1]
  | .jpNZA16 n => [0xC2, loByte n, hiByte n]
  | .jpA16 n => [0xC3, loByte n, hiByte n]
  | .callNZA16 n => [0xC4, loByte n, hiByte n]
  | .pushBC => [0xC5]
  | .addAN8 n => [0xC6, n]
  | .rst00 => [0xC7]
  | .retZ => [0xC8]
  | .ret => [0xC9]
  | .jpZA16 n => [0xCA, loByte n, hiByte n]
  | .callZA16 n => [0xCC, loByte n, hiByte n]
  | .callA16 n => [0xCD, loByte n, hiByte n]
  | .adcAN8 n => [0xCE, n]
  | .rst08 => [0xCF]
  | .retNC => [0xD0]
  | .popDE => [0xD1]
  | .jpNCA16 n => [0xD2, loByte n, hiByte n]
  | .illegalD3 => [0xD3]
  | .callNCA16 n => [0xD4, loByte n, hiByte n]
  | .pushDE => [0xD5]
  | .subN8 n => [0xD6, n]
  | .rst10 => [0xD7]
  | .retC => [0xD8]
  | .reti => [0xD9]
  | .jpCA16 n => [0xDA, loByte n, hiByte n]
  | .illegalDB => [0xDB]
  | .callCA16 n => [0xDC, loByte n, hiByte n]
  | .illegalDD => [0xDD]
  | .sbcAN8 n => [0xDE, n]
  | .rst18 => [0xDF]
  | .ldhAtA8A n => [0xE0, n]
  | .popHL => [0xE1]
  | .ldhAtCA => [0xE2]
  | .illegalE3 => [0xE3]
  | .illegalE4 => [0xE4]
  | .pushHL => [0xE5]
  | .andN8 n => [0xE6, n]
  | .rst20 => [0xE7]
  | .addSPE8 n => [0xE8, n]
  | .jpHL => [0xE9]
  | .ldAtA16A n => [0xEA, loByte n, hiByte n]
  | .illegalEB => [0xEB]
  | .illegalEC => [0xEC]
  | .illegalED => [0xED]
  | .xorN8 n => [0xEE, n]
  | .rst28 => [0xEF]
  | .ldhAAtA8 n => [0xF0, n]
  | .popAF => [0xF1]
  | .ldhAAtC => [0xF2]
  | .di => [0xF3]
  | .illegalF4 => [0xF4]
  | .pushAF => [0xF5]
  | .orN8 n => [0xF6, n]
  | .rst30 => [0xF7]
  | .ldHLSPE8 n => [0xF8, n]
  | .ldSPHL => [0xF9]
  | .ldAAtA16 n => [0xFA, loByte n, hiByte n]
  | .ei => [0xFB]
  | .illegalFC => [0xFC]
  | .illegalFD => [0xFD]
  | .cpN8 n => [0xFE, n]
  | .rst38 => [0xFF]
  | .rlcB => [0xCB, 0x00]
  | .rlcC => [0xCB, 0x01]
  | .rlcD => [0xCB, 0x02]
  | .rlcE => [0xCB, 0x03]
  | .rlcH => [0xCB, 0x04]
  | .rlcL => [0xCB, 0x05]
  | .rlcAtHL => [0xCB, 0x06]
  | .rlcA => [0xCB, 0x07]
  | .rrcB => [0xCB, 0x08]
  | .rrcC => [0xCB, 0x09]
  | .rrcD => [0xCB, 0x0A]
  | .rrcE => [0xCB, 0x0B]
  | .rrcH => [0xCB, 0x0C]
  | .rrcL => [0xCB, 0x0D]
  | .rrcAtHL => [0xCB, 0x0E]
  | .rrcA => [0xCB, 0x0F]
  | .rlB => [0xCB, 0x10]
  | .rlC => [0xCB, 0x11]
  | .rlD => [0xCB, 0x12]
  | .rlE => [0xCB, 0x13]
  | .rlH => [0xCB, 0x14]
  | .rlL => [0xCB, 0x15]
  | .rlAtHL => [0xCB, 0x16]
  | .rlA => [0xCB, 0x17]
  | .rrB => [0xCB, 0x18]
  | .rrC => [0xCB, 0x19]
  | .rrD => [0xCB, 0x1A]
  | .rrE => [0xCB, 0x1B]
  | .rrH => [0xCB, 0x1C]
  | .rrL => [0xCB, 0x1D]
  | .rrAtHL => [0xCB, 0x1E]
  | .rrA => [0xCB, 0x1F]
  | .slaB => [0xCB, 0x20]
  | .slaC => [0xCB, 0x21]
  | .slaD => [0xCB, 0x22]
  | .slaE => [0xCB, 0x23]
  | .slaH => [0xCB, 0x24]
  | .slaL => [0xCB, 0x25]
  | .slaAtHL => [0xCB, 0x26]
  | .slaA => [0xCB, 0x27]
  | .sraB => [0xCB, 0x28]
  | .sraC => [0xCB, 0x29]
  | .sraD => [0xCB, 0x2A]
  | .sraE => [0xCB, 0x2B]
  | .sraH => [0xCB, 0x2C]
  | .sraL => [0xCB, 0x2D]
  | .sraAtHL => [0xCB, 0x2E]
  | .sraA => [0xCB, 0x2F]
  | .swapB => [0xCB, 0x30]
  | .swapC => [0xCB, 0x31]
  | .swapD => [0xCB, 0x32]
  | .swapE => [0xCB, 0x33]
  | .swapH => [0xCB, 0x34]
  | .swapL => [0xCB, 0x35]
  | .swapAtHL => [0xCB, 0x36]
  | .swapA => [0xCB, 0x37]
  | .srlB => [0xCB, 0x38]
  | .srlC => [0xCB, 0x39]
  | .srlD => [0xCB, 0x3A]
  | .srlE => [0xCB, 0x3B]
  | .srlH => [0xCB, 0x3C]
  | .srlL => [0xCB, 0x3D]
  | .srlAtHL => [0xCB, 0x3E]
  | .srlA => [0xCB, 0x3F]
  | .bit0B => [0xCB, 0x40]
  | .bit0C => [0xCB, 0x41]
  | .bit0D => [0xCB, 0x42]
  | .bit0E => [0xCB, 0x43]
  | .bit0H => [0xCB, 0x44]
  | .bit0L => [0xCB, 0x45]
  | .bit0AtHL => [0xCB, 0x46]
  | .bit0A => [0xCB, 0x47]
  | .bit1B => [0xCB, 0x48]
  | .bit1C => [0xCB, 0x49]
  | .bit1D => [0xCB, 0x4A]
  | .bit1E => [0xCB, 0x4B]
  | .bit1H => [0xCB, 0x4C]
  | .bit1L => [0xCB, 0x4D]
  | .bit1AtHL => [0xCB, 0x4E]
  | .bit1A => [0xCB, 0x4F]
  | .bit2B => [0xCB, 0x50]
  | .bit2C => [0xCB, 0x51]
  | .bit2D => [0xCB, 0x52]
  | .bit2E => [0xCB, 0x53]
  | .bit2H => [0xCB, 0x54]
  | .bit2L => [0xCB, 0x55]
  | .bit2AtHL => [0xCB, 0x56]
  | .bit2A => [0xCB, 0x57]
  | .bit3B => [0xCB, 0x58]
  | .bit3C => [0xCB, 0x59]
  | .bit3D => [0xCB, 0x5A]
  | .bit3E => [0xCB, 0x5B]
  | .bit3H => [0xCB, 0x5C]
  | .bit3L => [0xCB, 0x5D]
  | .bit3AtHL => [0xCB, 0x5E]
  | .bit3A => [0xCB, 0x5F]
  | .bit4B => [0xCB, 0x60]
  | .bit4C => [0xCB, 0x61]
  | .bit4D => [0xCB, 0x62]
  | .bit4E => [0xCB, 0x63]
  | .bit4H => [0xCB, 0x64]
  | .bit4L => [0xCB, 0x65]
  | .bit4AtHL => [0xCB, 0x66]
  | .bit4A => [0xCB, 0x67]
  | .bit5B => [0xCB, 0x68]
  | .bit5C => [0xCB, 0x69]
  | .bit5D => [0xCB, 0x6A]
  | .bit5E => [0xCB, 0x6B]
  | .bit5H => [0xCB, 0x6C]
  | .bit5L => [0xCB, 0x6D]
  | .bit5AtHL => [0xCB, 0x6E]
  | .bit5A => [0xCB, 0x6F]
  | .bit6B => [0xCB, 0x70]
  | .bit6C => [0xCB, 0x71]
  | .bit6D => [0xCB, 0x72]
  | .bit6E => [0xCB, 0x73]
  | .bit6H => [0xCB, 0x74]
  | .bit6L => [0xCB, 0x75]
  | .bit6AtHL => [0xCB, 0x76]
  | .bit6A => [0xCB, 0x77]
  | .bit7B => [0xCB, 0x78]
  | .bit7C => [0xCB, 0x79]
  | .bit7D => [0xCB, 0x7A]
  | .bit7E => [0xCB, 0x7B]
  | .bit7H => [0xCB, 0x7C]
  | .bit7L => [0xCB, 0x7D]
  | .bit7AtHL => [0xCB, 0x7E]
  | .bit7A => [0xCB, 0x7F]
  | .res0B => [0xCB, 0x80]
  | .res0C => [0xCB, 0x81]
  | .res0D => [0xCB, 0x82]
  | .res0E => [0xCB, 0x83]
  | .res0H => [0xCB, 0x84]
  | .res0L => [0xCB, 0x85]
  | .res0AtHL => [0xCB, 0x86]
  | .res0A => [0xCB, 0x87]
  | .res1B => [0xCB, 0x88]
  | .res1C => [0xCB, 0x89]
  | .res1D => [0xCB, 0x8A]
  | .res1E => [0xCB, 0x8B]
  | .res1H => [0xCB, 0x8C]
  | .res1L => [0xCB, 0x8D]
  | .res1AtHL => [0xCB, 0x8E]
  | .res1A => [0xCB, 0x8F]
  | .res2B => [0xCB, 0x90]
  | .res2C => [0xCB, 0x91]
  | .res2D => [0xCB, 0x92]
  | .res2E => [0xCB, 0x93]
  | .res2H => [0xCB, 0x94]
  | .res2L => [0xCB, 0x95]
  | .res2AtHL => [0xCB, 0x96]
  | .res2A => [0xCB, 0x97]
  | .res3B => [0xCB, 0x98]
  | .res3C => [0xCB, 0x99]
  | .res3D => [0xCB, 0x9A]
  | .res3E => [0xCB, 0x9B]
  | .res3H => [0xCB, 0x9C]
  | .res3L => [0xCB, 0x9D]
  | .res3AtHL => [0xCB, 0x9E]
  | .res3A => [0xCB, 0x9F]
  | .res4B => [0xCB, 0xA0]
  | .res4C => [0xCB, 0xA1]
  | .res4D => [0xCB, 0xA2]
  | .res4E => [0xCB, 0xA3]
  | .res4H => [0xCB, 0xA4]
  | .res4L => [0xCB, 0xA5]
  | .res4AtHL => [0xCB, 0xA6]
  | .res4A => [0xCB, 0xA7]
  | .res5B => [0xCB, 0xA8]
  | .res5C => [0xCB, 0xA9]
  | .res5D => [0xCB, 0xAA]
  | .res5E => [0xCB, 0xAB]
  | .res5H => [0xCB, 0xAC]
  | .res5L => [0xCB, 0xAD]
  | .res5AtHL => [0xCB, 0xAE]
  | .res5A => [0xCB, 0xAF]
  | .res6B => [0xCB, 0xB0]
  | .res6C => [0xCB, 0xB1]
  | .res6D => [0xCB, 0xB2]
  | .res6E => [0xCB, 0xB3]
  | .res6H => [0xCB, 0xB4]
  | .res6L => [0xCB, 0xB5]
  | .res6AtHL => [0xCB, 0xB6]
  | .res6A => [0xCB, 0xB7]
  | .res7B => [0xCB, 0xB8]
  | .res7C => [0xCB, 0xB9]
  | .res7D => [0xCB, 0xBA]
  | .res7E => [0xCB, 0xBB]
  | .res7H => [0xCB, 0xBC]
  | .res7L => [0xCB, 0xBD]
  | .res7AtHL => [0xCB, 0xBE]
  | .res7A => [0xCB, 0xBF]
  | .set0B => [0xCB, 0xC0]
  | .set0C => [0xCB, 0xC1]
  | .set0D => [0xCB, 0xC2]
  | .set0E => [0xCB, 0xC3]
  | .set0H => [0xCB, 0xC4]
  | .set0L => [0xCB, 0xC5]
  | .set0AtHL => [0xCB, 0xC6]
  | .set0A => [0xCB, 0xC7]
  | .set1B => [0xCB, 0xC8]
  | .set1C => [0xCB, 0xC9]
  | .set1D => [0xCB, 0xCA]
  | .set1E => [0xCB, 0xCB]
  | .set1H => [0xCB, 0xCC]
  | .set1L => [0xCB, 0xCD]
  | .set1AtHL => [0xCB, 0xCE]
  | .set1A => [0xCB, 0xCF]
  | .set2B => [0xCB, 0xD0]
  | .set2C => [0xCB, 0xD1]
  | .set2D => [0xCB, 0xD2]
  | .set2E => [0xCB, 0xD3]
  | .set2H => [0xCB, 0xD4]
  | .set2L => [0xCB, 0xD5]
  | .set2AtHL => [0xCB, 0xD6]
  | .set2A => [0xCB, 0xD7]
  | .set3B => [0xCB, 0xD8]
  | .set3C => [0xCB, 0xD9]
  | .set3D => [0xCB, 0xDA]
  | .set3E => [0xCB, 0xDB]
  | .set3H => [0xCB, 0xDC]
  | .set3L => [0xCB, 0xDD]
  | .set3AtHL => [0xCB, 0xDE]
  | .set3A => [0xCB, 0xDF]
  | .set4B => [0xCB, 0xE0]
  | .set4C => [0xCB, 0xE1]
  | .set4D => [0xCB, 0xE2]
  | .set4E => [0xCB, 0xE3]
  | .set4H => [0xCB, 0xE4]
  | .set4L => [0xCB, 0xE5]
  | .set4AtHL => [0xCB, 0xE6]
  | .set4A => [0xCB, 0xE7]
  | .set5B => [0xCB, 0xE8]
  | .set5C => [0xCB, 0xE9]
  | .set5D => [0xCB, 0xEA]
  | .set5E => [0xCB, 0xEB]
  | .set5H => [0xCB, 0xEC]
  | .set5L => [0xCB, 0xED]
  | .set5AtHL => [0xCB, 0xEE]
  | .set5A => [0xCB, 0xEF]
  | .set6B => [0xCB, 0xF0]
  | .set6C => [0xCB, 0xF1]
  | .set6D => [0xCB, 0xF2]
  | .set6E => [0xCB, 0xF3]
  | .set6H => [0xCB, 0xF4]
  | .set6L => [0xCB, 0xF5]
  | .set6AtHL => [0xCB, 0xF6]
  | .set6A => [0xCB, 0xF7]
  | .set7B => [0xCB, 0xF8]
  | .set7C => [0xCB, 0xF9]
  | .set7D => [0xCB, 0xFA]
  | .set7E => [0xCB, 0xFB]
  | .set7H => [0xCB, 0xFC]
  | .set7L => [0xCB, 0xFD]
  | .set7AtHL => [0xCB, 0xFE]
  | .set7A => [0xCB, 0xFF]

/-- The first byte of an instruction. -/
def opcodeOf (i : Instr) : Byte := (encode i).headD 0

/-! ### Lengths (R130) -/

/-- The first bytes of the 3-byte instructions (R130). -/
def opcodesOfLength3 : List Byte :=
  [0x01, 0x11, 0x21, 0x31, 0x08, 0xC2, 0xCA, 0xD2, 0xDA, 0xC3, 0xC4, 0xCC, 0xD4, 0xDC, 0xCD, 0xEA, 0xFA]

/-- The first bytes of the 2-byte instructions (R130). -/
def opcodesOfLength2 : List Byte :=
  [0x06, 0x0E, 0x16, 0x1E, 0x26, 0x2E, 0x36, 0x3E, 0x10, 0x18, 0x20, 0x28, 0x30, 0x38,
   0xC6, 0xCE, 0xD6, 0xDE, 0xE6, 0xEE, 0xF6, 0xFE, 0xE0, 0xF0, 0xE8, 0xF8, 0xCB]

/-- `Len(op)` (R130): the length in bytes of the instruction whose first byte is `op`; 1 for every byte not
listed, the illegal ones included (R136). -/
def opLength (op : Byte) : Nat :=
  if op ∈ opcodesOfLength3 then 3 else if op ∈ opcodesOfLength2 then 2 else 1

/-- The length the advance adds (R146): that of the instruction's first byte. -/
def instrLength (i : Instr) : Nat := opLength (opcodeOf i)

/-- The 11 illegal bytes (R136). -/
def illegalOpcodes : List Byte :=
  [0xD3, 0xDB, 0xDD, 0xE3, 0xE4, 0xEB, 0xEC, 0xED, 0xF4, 0xFC, 0xFD]

/-! ### The opcode table's words, for the host -/

/-- The three bytes, in memory order, of an instruction whose bits the opcode table gives as the low `nbits`
of `w`, every bit above them 0. The first byte is bits 7..0 and later bytes count on from it, except for the
extended rows: the table writes these as one 16-bit number with the prefix `0xCB` in bits 15..8 (`0xCB00` to
`0xCBFF`), so there the first byte is the high one. Log entry 8. -/
def tableBytes (nbits w : Nat) : List Byte :=
  let v := w % 2 ^ nbits
  if nbits = 16 ∧ v / 256 = 0xCB then [0xCB, BitVec.ofNat 8 v, 0]
  else [BitVec.ofNat 8 v, BitVec.ofNat 8 (v / 256), BitVec.ofNat 8 (v / 65536)]

/-- The instruction the decoder reads from an opcode-table row (see `tableBytes`). -/
def decodeTableWord (nbits w : Nat) : Option Instr :=
  match decode (tableBytes nbits w) with
  | .ok (i, _) => some i
  | .error _ => none

end Sys2Proof
end

