-- ==== Sys2Proof/Machine/State.lean ====
section
/-! DEFINITION. The state of the block (10_state.md), as plain data, and its value after reset. -/

namespace Sys2Proof.Machine

/-- A memory of bytes: (address, byte) pairs, addresses strictly rising, no entry holding the 0x00 an
unlisted address reads as (`Memory.wf` in Machine/Ops.lean). It holds the six arrays of R45, each cell under
its bus address (base plus offset). Log entries 3 and 4. -/
abbrev Memory := List Host.Cell

/-- What an address resolves to (the table of R71). -/
inductive Region where
  | rom | wram0 | wram1 | hram | vram
  /-- 0xFFFF, the interrupt-enable byte. -/
  | ie
  /-- 0xFF0F, the interrupt-flag byte. -/
  | iflag
  /-- 0xFF44, the scanline register. -/
  | ly
  | io
  | unmapped
  deriving DecidableEq, Repr

/-- One event of the access history (R85). -/
inductive AccessEvent where
  | read (a : Word)
  | write (a : Word) (v : Byte)
  deriving DecidableEq, Repr

/-- The register snapshot (R44): the six 16-bit values of R147. -/
structure Snapshot where
  af : Word
  bc : Word
  de : Word
  hl : Word
  sp : Word
  pc : Word
  deriving DecidableEq, Repr

/-- The boot profiles of the reset command (R47, R48). -/
inductive Profile where
  | dmg | alt
  deriving DecidableEq, Repr

/-- Why a step could stop with a fault: there is no reason. "The block raises no exception, takes no trap"
(R800): an unmapped access and an illegal byte set the state bits `invalid` and `unimpl` and the step goes on
(R10, R801, R802). Log entry 10. -/
inductive Fault where
  deriving DecidableEq, Repr

/-- Why a step could be refused. -/
inductive Refusal where
  /-- The instruction has no meaning in the model yet. No arm of `exec` answers with it: every row of the
  opcode table has its meaning. Safe. -/
  | notModelled (mnemonic : String)
  deriving DecidableEq, Repr

/-- Every piece of state of R30 to R46 and R85, and one counter of the model's own (`draws`). -/
structure State where
  /-- The accumulator (R30). -/
  a : Byte
  /-- The flags byte: Z N H C in bits 7 to 4, bits 3 to 0 read as 0 (R33, R34). -/
  f : Byte
  b : Byte
  c : Byte
  d : Byte
  e : Byte
  h : Byte
  l : Byte
  /-- The stack pointer (R36). -/
  sp : Word
  /-- The program counter (R37). -/
  pc : Word
  /-- The advance-suppression flag (R38). -/
  redirect : Bool
  /-- The interrupt master enable (R39). -/
  ime : Bool
  /-- The low-power state bit (R40). -/
  halted : Bool
  /-- The sticky invalid-access signal (R41). -/
  invalid : Bool
  /-- The sticky unimplemented-instruction signal (R42). -/
  unimpl : Bool
  /-- The instruction-execution counter, unbounded (R43). -/
  icount : Nat
  /-- The register snapshot (R44). -/
  snap : Snapshot
  /-- The arrays ROM, WRAM0, WRAM1, VRAM, HRAM and IO (R45). -/
  mem : Memory
  /-- The interrupt-enable mask (R46). -/
  ie : Byte
  /-- The interrupt-flag byte (R46). -/
  iflag : Byte
  /-- The access history (R85), the newest event first. -/
  history : List AccessEvent
  /-- The model's own: how many reads of unmapped addresses have drawn a byte (log entries 1 and 2). -/
  draws : Nat
  deriving DecidableEq, Repr

/-- The outcome of a step or of an instruction. -/
abbrev Result := Host.Outcome State Fault Refusal

/-- The state right after construction (R49, R900) with a ROM image of zeros, profile `DMG` (R47); the reset
command with that profile leaves it as it is (R901). The ROM image is the host's to give (R5, log entry 5). -/
def State.reset : State where
  a := 0x01
  f := 0xB0
  b := 0x00
  c := 0x13
  d := 0x00
  e := 0xD8
  h := 0x01
  l := 0x4D
  sp := 0xFFFE
  pc := 0x0100
  redirect := false
  ime := false
  halted := false
  invalid := false
  unimpl := false
  icount := 0
  snap := ⟨0x01B0, 0x0013, 0x00D8, 0x014D, 0xFFFE, 0x0100⟩
  mem := []
  ie := 0x00
  iflag := 0x00
  history := []
  draws := 0

end Sys2Proof.Machine
end

