-- ==== Sys2Proof/Machine/Ops.lean ====
section
/-! DEFINITION. The named operations over memory and control state: the bus (20_memory.md), the stack
primitives, the redirecting write of `PC` (R142) and the two sticky signals (R800). The block takes no
exception (R800, R807), so there is no exception entry here: where another machine would trap, `invalid` or
`unimpl` is set and the step goes on. -/

namespace Sys2Proof.Machine

/-! ### Memory as data -/

/-- The canonical form: addresses strictly rising, no entry holding 0x00. -/
abbrev Memory.wf (m : Memory) : Prop :=
  m.Pairwise (fun p q => p.1 < q.1) ∧ ∀ cell ∈ m, cell.2 ≠ 0

/-- The byte at an address; an unlisted address reads as 0x00, the fill of construction and reset (R900,
R901). -/
def Memory.get (m : Memory) (a : Nat) : Byte :=
  match m with
  | [] => 0
  | (k, x) :: rest => if k = a then x else Memory.get rest a

/-- Writes the byte at an address and keeps the canonical form. -/
def Memory.set (m : Memory) (a : Nat) (v : Byte) : Memory :=
  match m with
  | [] => if v = 0 then [] else [(a, v)]
  | (k, x) :: rest =>
    if a < k then (if v = 0 then (k, x) :: rest else (a, v) :: (k, x) :: rest)
    else if a = k then (if v = 0 then rest else (a, v) :: rest)
    else (k, x) :: Memory.set rest a v

/-! ### The bus (R71) -/

/-- The target an address resolves to: the first matching item of R71, in its priority order. -/
def region (a : Word) : Region :=
  let n := a.toNat
  if n ≤ 0x7FFF then .rom
  else if 0xC000 ≤ n ∧ n ≤ 0xCFFF then .wram0
  else if 0xD000 ≤ n ∧ n ≤ 0xDFFF then .wram1
  else if 0xFF80 ≤ n ∧ n ≤ 0xFFFE then .hram
  else if 0x8000 ≤ n ∧ n ≤ 0x9FFF then .vram
  else if n = 0xFFFF then .ie
  else if n = 0xFF0F then .iflag
  else if n = 0xFF44 then .ly
  else if 0xFF00 ≤ n ∧ n ≤ 0xFF7F then .io
  else .unmapped

/-- Whether an access to the address is an invalid one (R81, R82). -/
def unmapped (a : Word) : Bool := region a == .unmapped

/-- The byte every access forces into the scanline cell (R79). -/
def lyValue : Byte := 0x90

/-- The cell of the scanline register, offset 0x44 of the array IO (R71). -/
def lyCell : Nat := 0xFF44

/-- Appends an event to the access history (R85). -/
def State.record (s : State) (ev : AccessEvent) : State := { s with history := ev :: s.history }

/-- The invalid-access signal (R82, R801). -/
def State.signalInvalid (s : State) : State := { s with invalid := true }

/-- The unimplemented-instruction signal (R802). -/
def State.signalUnimpl (s : State) : State := { s with unimpl := true }

/-- The read of R83 without its event: the byte and the state after. A read of an unmapped address draws a
byte and sets `invalid` (R81). -/
def State.load (s : State) (a : Word) : Byte × State :=
  match region a with
  | .ie => (s.ie, s)
  | .iflag => (s.iflag, s)
  | .ly => (lyValue, { s with mem := s.mem.set lyCell lyValue })
  | .unmapped => (Config.draw s.draws, { s.signalInvalid with draws := s.draws + 1 })
  | .rom | .wram0 | .wram1 | .hram | .vram | .io => (s.mem.get a.toNat, s)

/-- The write of R84 without its event. A write to ROM is stored (R94); one to an unmapped address is
discarded and sets `invalid` (R81). -/
def State.store (s : State) (a : Word) (v : Byte) : State :=
  match region a with
  | .ie => { s with ie := v }
  | .iflag => { s with iflag := v }
  | .ly => { s with mem := (s.mem.set lyCell lyValue).set lyCell v }
  | .unmapped => s.signalInvalid
  | .rom | .wram0 | .wram1 | .hram | .vram | .io => { s with mem := s.mem.set a.toNat v }

/-- `MemRead(a, 1)` (R83). -/
def State.memRead (s : State) (a : Word) : Byte × State := (s.record (.read a)).load a

/-- `MemWrite(a, 1, v)` (R84). -/
def State.memWrite (s : State) (a : Word) (v : Byte) : State := (s.record (.write a v)).store a v

/-- `MemRead(a, 2)`: little-endian, the low byte first (R86, R87). -/
def State.memRead16 (s : State) (a : Word) : Word × State :=
  let lo := s.memRead a
  let hi := lo.2.memRead (a + 1)
  (wordOf hi.1 lo.1, hi.2)

/-- `MemWrite(a, 2, v)`: little-endian, the low byte first (R86, R87). -/
def State.memWrite16 (s : State) (a v : Word) : State :=
  (s.memWrite a (loByte v)).memWrite (a + 1) (hiByte v)

/-- What a read of the address would return, without reading it: nothing for an unmapped address, whose
reads are draws. -/
def State.byteAt (s : State) (a : Word) : Option Byte :=
  match region a with
  | .ie => some s.ie
  | .iflag => some s.iflag
  | .ly => some lyValue
  | .unmapped => none
  | .rom | .wram0 | .wram1 | .hram | .vram | .io => some (s.mem.get a.toNat)

/-! ### The stack (R88, R89) -/

/-- `Push16(v)` (R88): the high byte is written first (R87). -/
def State.push16 (s : State) (v : Word) : State :=
  let s1 : State := { s with sp := s.sp - 2 }
  (s1.memWrite (s1.sp + 1) (hiByte v)).memWrite s1.sp (loByte v)

/-- `Pop16()` (R89). -/
def State.pop16 (s : State) : Word × State :=
  let lo := s.memRead s.sp
  let hi := lo.2.memRead (s.sp + 1)
  (wordOf hi.1 lo.1, { hi.2 with sp := s.sp + 2 })

/-! ### Control -/

/-- `pc <- target` (R142). -/
def State.jump (s : State) (target : Word) : State := { s with pc := target, redirect := true }

/-- The wake condition `(IE & IF & 0x1F) != 0` (R144). -/
def State.wake (s : State) : Bool := (s.ie &&& s.iflag &&& 0x1F) != 0

end Sys2Proof.Machine
end

