-- ==== Sys2Proof/Machine/Flags.lean ====
section
/-! DEFINITION. The flags byte (R33, R34) and every flag computation: the ALU primitives of 40_alu.md
(R200 to R203, R238), 42_wide.md (R400, R401) and 44_rotate_shift_bit.md (R600). -/

namespace Sys2Proof.Machine

/-! ### The flags byte -/

/-- `F.Z` (R33). -/
def State.flagZ (s : State) : Bool := s.f.getLsbD 7
/-- `F.N` (R33). -/
def State.flagN (s : State) : Bool := s.f.getLsbD 6
/-- `F.H` (R33). -/
def State.flagH (s : State) : Bool := s.f.getLsbD 5
/-- `F.C` (R33). -/
def State.flagC (s : State) : Bool := s.f.getLsbD 4

/-- The flags byte that holds four given flags (R33); its low nibble is 0 (R34). -/
def packFlags (z n h c : Bool) : Byte :=
  BitVec.ofNat 8 (z.toNat * 128 + n.toNat * 64 + h.toNat * 32 + c.toNat * 16)

/-- The unused bits of the flags byte read as 0 and are masked on every write of a byte (R34). -/
def maskFlags (v : Byte) : Byte := v &&& 0xF0

/-- Writes the four flags. An instruction that leaves a flag alone passes its old value. -/
def State.setFlags (s : State) (z n h c : Bool) : State := { s with f := packFlags z n h c }

/-! ### 8-bit arithmetic and logic (40_alu.md) -/

/-- A result byte and its four flags. -/
structure AluOut where
  res : Byte
  z : Bool
  n : Bool
  h : Bool
  c : Bool
  deriving DecidableEq, Repr

/-- `add8(a, b, cin)` (R200); the carry is folded unreduced into both sums (90_conflicts.md C7). -/
def add8 (a b : Byte) (cin : Bool) : AluOut :=
  let t := a.toNat + b.toNat + cin.toNat
  let res : Byte := BitVec.ofNat 8 t
  { res, z := res == 0, n := false,
    h := decide (a.toNat % 16 + b.toNat % 16 + cin.toNat > 0xF), c := decide (t > 0xFF) }

/-- `sub8(a, b, cin)` (R201). -/
def sub8 (a b : Byte) (cin : Bool) : AluOut :=
  let t : Int := (a.toNat : Int) - (b.toNat : Int) - (cin.toNat : Int)
  let res : Byte := BitVec.ofInt 8 t
  { res, z := res == 0, n := true,
    h := decide (((a.toNat % 16 : Nat) : Int) - ((b.toNat % 16 : Nat) : Int) - (cin.toNat : Int) < 0),
    c := decide (t < 0) }

/-- `logic8` (R202) of a result: `H` is 1 for `AND` alone. -/
def logic8 (res : Byte) (half : Bool) : AluOut :=
  { res, z := res == 0, n := false, h := half, c := false }

/-- `alu[y]` of R204 on the accumulator, the source value and the old `F.C`. For `CP` the result is that of
the subtraction; it is not written. -/
def alu (op : AluOp) (a v : Byte) (cin : Bool) : AluOut :=
  match op with
  | .add => add8 a v false
  | .adc => add8 a v cin
  | .sub => sub8 a v false
  | .sbc => sub8 a v cin
  | .and => logic8 (a &&& v) true
  | .xor => logic8 (a ^^^ v) false
  | .or => logic8 (a ||| v) false
  | .cp => sub8 a v false

/-- `inc8(v)` (R203); `C` is not written, so the old one is passed through. -/
def inc8 (v : Byte) (c : Bool) : AluOut :=
  let res := v + 1
  { res, z := res == 0, n := false, h := decide (v.toNat % 16 = 0xF), c }

/-- `dec8(v)` (R203). -/
def dec8 (v : Byte) (c : Bool) : AluOut :=
  let res := v - 1
  { res, z := res == 0, n := true, h := decide (v.toNat % 16 = 0), c }

/-- The decimal adjust of R238, on the accumulator and the flags `N`, `H` and `C`. Both tests read the
accumulator before the adjustment. -/
def decimalAdjust (a : Byte) (n h c : Bool) : AluOut :=
  let low := h || (!n && decide (a.toNat % 16 > 9))
  let high := c || (!n && decide (a.toNat > 0x99))
  let u : Byte := (if low then 0x06 else 0) ||| (if high then 0x60 else 0)
  let res := if n then a - u else a + u
  { res, z := res == 0, n, h := false, c := high }

/-! ### 16-bit arithmetic (42_wide.md) -/

/-- A result word and its four flags. -/
structure WideOut where
  res : Word
  z : Bool
  n : Bool
  h : Bool
  c : Bool
  deriving DecidableEq, Repr

/-- `add16(a, b)` (R400): half-carry out of bit 11, carry out of bit 15; `Z` is passed through. -/
def add16 (a b : Word) (z : Bool) : WideOut :=
  let t := a.toNat + b.toNat
  { res := BitVec.ofNat 16 t, z, n := false,
    h := decide (a.toNat % 0x1000 + b.toNat % 0x1000 > 0xFFF), c := decide (t > 0xFFFF) }

/-- `sext_16(v)` (R7). -/
def sext16 (v : Byte) : Word :=
  if v.toNat < 0x80 then BitVec.ofNat 16 v.toNat else BitVec.ofNat 16 (v.toNat + 0xFF00)

/-- `addSPe(sp, e)` (R401): the flags are those of the unsigned addition of `e` to the low byte
(90_conflicts.md C5). -/
def addSPe (sp : Word) (e : Byte) : WideOut :=
  { res := sp + sext16 e, z := false, n := false,
    h := decide (sp.toNat % 16 + e.toNat % 16 > 0xF), c := decide (sp.toNat % 256 + e.toNat > 0xFF) }

/-! ### Rotates, shifts and bits (44_rotate_shift_bit.md) -/

/-- `1 << b` as a byte (R628, R630). -/
def bitMask (b : Fin 8) : Byte := 1 <<< b.val

/-- A byte holding one bit: 1 or 0. -/
def bitByte (x : Bool) : Byte := BitVec.ofNat 8 x.toNat

/-- `rot(y, v, cin)` (R600): the result and the bit shifted out. -/
def rotate (op : RotOp) (v : Byte) (cin : Bool) : Byte × Bool :=
  let b7 := v.getLsbD 7
  let b0 := v.getLsbD 0
  match op with
  | .rlc => ((v <<< 1) ||| bitByte b7, b7)
  | .rrc => ((v >>> 1) ||| (bitByte b0 <<< 7), b0)
  | .rl => ((v <<< 1) ||| bitByte cin, b7)
  | .rr => ((v >>> 1) ||| (bitByte cin <<< 7), b0)
  | .sla => (v <<< 1, b7)
  | .sra => ((v >>> 1) ||| (v &&& 0x80), b0)
  | .swap => ((v <<< 4) ||| (v >>> 4), false)
  | .srl => (v >>> 1, b0)

end Sys2Proof.Machine
end

