-- ==== Sys2Proof/Machine/Operands.lean ====
section
/-! DEFINITION. The operand forms (30_encoding.md section 2): the 8-bit operands (R123), the pairs (R31, R32,
R124, R125), the conditions (R126), and the address of the high page (R128). Immediates are read by the
fetch (Machine/Fetch.lean). -/

namespace Sys2Proof.Machine

/-! ### 8-bit operands (R123) -/

/-- Reads a register of the table `r8`. -/
def State.reg8 (s : State) (r : Reg8) : Byte :=
  match r with
  | .b => s.b
  | .c => s.c
  | .d => s.d
  | .e => s.e
  | .h => s.h
  | .l => s.l
  | .a => s.a

/-- Writes a register of the table `r8`. -/
def State.setReg8 (s : State) (r : Reg8) (v : Byte) : State :=
  match r with
  | .b => { s with b := v }
  | .c => { s with c := v }
  | .d => { s with d := v }
  | .e => { s with e := v }
  | .h => { s with h := v }
  | .l => { s with l := v }
  | .a => { s with a := v }

/-! ### Pairs (R31, R32) -/

/-- The flags byte as a program reads it: bits 3 to 0 read as 0 (R34). -/
def State.readF (s : State) : Byte := maskFlags s.f

/-- `AF = A:F` (R31). -/
def State.af (s : State) : Word := wordOf s.a s.readF
/-- `BC = B:C` (R31). -/
def State.bc (s : State) : Word := wordOf s.b s.c
/-- `DE = D:E` (R31). -/
def State.de (s : State) : Word := wordOf s.d s.e
/-- `HL = H:L` (R31). -/
def State.hl (s : State) : Word := wordOf s.h s.l

/-- A write of `AF` masks the low nibble (R32). -/
def State.setAF (s : State) (v : Word) : State := { s with a := hiByte v, f := maskFlags (loByte v) }
/-- A write of `BC` (R32). -/
def State.setBC (s : State) (v : Word) : State := { s with b := hiByte v, c := loByte v }
/-- A write of `DE` (R32). -/
def State.setDE (s : State) (v : Word) : State := { s with d := hiByte v, e := loByte v }
/-- A write of `HL` (R32). -/
def State.setHL (s : State) (v : Word) : State := { s with h := hiByte v, l := loByte v }

/-- `R16(i)` over the table `rp` (R124). -/
def State.pair (s : State) (p : Pair) : Word :=
  match p with
  | .bc => s.bc
  | .de => s.de
  | .hl => s.hl
  | .sp => s.sp

/-- `SetR16(i, v)` over the table `rp` (R124). -/
def State.setPair (s : State) (p : Pair) (v : Word) : State :=
  match p with
  | .bc => s.setBC v
  | .de => s.setDE v
  | .hl => s.setHL v
  | .sp => { s with sp := v }

/-- `R16s(i)` over the table `rp2` (R125). -/
def State.stackPair (s : State) (p : StackPair) : Word :=
  match p with
  | .bc => s.bc
  | .de => s.de
  | .hl => s.hl
  | .af => s.af

/-- `SetR16s(i, v)` over the table `rp2` (R125). -/
def State.setStackPair (s : State) (p : StackPair) (v : Word) : State :=
  match p with
  | .bc => s.setBC v
  | .de => s.setDE v
  | .hl => s.setHL v
  | .af => s.setAF v

/-! ### Register or `(HL)` (R123) -/

/-- `R8(i)`: a register, or a read of memory at `HL`. -/
def State.readOperand (s : State) (x : Operand8) : Byte × State :=
  match x with
  | .reg r => (s.reg8 r, s)
  | .atHL => s.memRead s.hl

/-- `SetR8(i, v)`: a register, or a write to memory at `HL`. -/
def State.writeOperand (s : State) (x : Operand8) (v : Byte) : State :=
  match x with
  | .reg r => s.setReg8 r v
  | .atHL => s.memWrite s.hl v

/-! ### Conditions and addresses -/

/-- `Cond(cc)` (R126). -/
def State.cond (s : State) (k : Cond) : Bool :=
  match k with
  | .nz => !s.flagZ
  | .z => s.flagZ
  | .nc => !s.flagC
  | .c => s.flagC

/-- `Hi8(n) = 0xFF00 + n` (R128). -/
def highPage (n : Byte) : Word := BitVec.ofNat 16 (0xFF00 + n.toNat)

end Sys2Proof.Machine
end

