-- ==== Sys2Proof/Machine/Arithmetic.lean ====
section
/-! DEFINITION. 8-bit arithmetic and logic (40_alu.md, R204 and R210 to R241). -/

namespace Sys2Proof.Machine

/-! ### The shared operations -/

/-- The accumulator family on a source value (R204): the flags, and the accumulator but for `CP`. -/
def State.applyAlu (s : State) (op : AluOp) (v : Byte) : State :=
  let r := alu op s.a v s.flagC
  let s1 := s.setFlags r.z r.n r.h r.c
  match op with
  | .cp => s1
  | .add | .adc | .sub | .sbc | .and | .xor | .or => { s1 with a := r.res }

/-- The accumulator family on a register or on the byte at `HL` (R204). -/
def State.aluOperand (s : State) (op : AluOp) (x : Operand8) : State :=
  let v := s.readOperand x
  v.2.applyAlu op v.1

/-- `INC` on a register or on the byte at `HL` (R234, R235). -/
def State.incrementOperand (s : State) (x : Operand8) : State :=
  let v := s.readOperand x
  let r := inc8 v.1 v.2.flagC
  (v.2.writeOperand x r.res).setFlags r.z r.n r.h r.c

/-- `DEC` on a register or on the byte at `HL` (R236, R237). -/
def State.decrementOperand (s : State) (x : Operand8) : State :=
  let v := s.readOperand x
  let r := dec8 v.1 v.2.flagC
  (v.2.writeOperand x r.res).setFlags r.z r.n r.h r.c

/-- `DAA` (R238). -/
def State.adjustDecimal (s : State) : State :=
  let r := decimalAdjust s.a s.flagN s.flagH s.flagC
  let s1 : State := { s with a := r.res }
  s1.setFlags r.z r.n r.h r.c

/-- `CPL` (R239). -/
def State.complementA (s : State) : State :=
  let s1 : State := { s with a := ~~~s.a }
  s1.setFlags s.flagZ true true s.flagC

/-- `SCF` (R240). -/
def State.setCarry (s : State) : State := s.setFlags s.flagZ false false true

/-- `CCF` (R241). -/
def State.complementCarry (s : State) : State := s.setFlags s.flagZ false false (!s.flagC)

/-! ### The instructions, one meaning each, in the order of spec/opcode_table.json -/

/-- `INC B`, 0x04 (R234). -/
def execIncB (s : State) : Result := .next (s.incrementOperand (.reg .b))

/-- `DEC B`, 0x05 (R236). -/
def execDecB (s : State) : Result := .next (s.decrementOperand (.reg .b))

/-- `INC C`, 0x0C (R234). -/
def execIncC (s : State) : Result := .next (s.incrementOperand (.reg .c))

/-- `DEC C`, 0x0D (R236). -/
def execDecC (s : State) : Result := .next (s.decrementOperand (.reg .c))

/-- `INC D`, 0x14 (R234). -/
def execIncD (s : State) : Result := .next (s.incrementOperand (.reg .d))

/-- `DEC D`, 0x15 (R236). -/
def execDecD (s : State) : Result := .next (s.decrementOperand (.reg .d))

/-- `INC E`, 0x1C (R234). -/
def execIncE (s : State) : Result := .next (s.incrementOperand (.reg .e))

/-- `DEC E`, 0x1D (R236). -/
def execDecE (s : State) : Result := .next (s.decrementOperand (.reg .e))

/-- `INC H`, 0x24 (R234). -/
def execIncH (s : State) : Result := .next (s.incrementOperand (.reg .h))

/-- `DEC H`, 0x25 (R236). -/
def execDecH (s : State) : Result := .next (s.decrementOperand (.reg .h))

/-- `DAA`, 0x27 (R238). -/
def execDaa (s : State) : Result := .next (s.adjustDecimal)

/-- `INC L`, 0x2C (R234). -/
def execIncL (s : State) : Result := .next (s.incrementOperand (.reg .l))

/-- `DEC L`, 0x2D (R236). -/
def execDecL (s : State) : Result := .next (s.decrementOperand (.reg .l))

/-- `CPL`, 0x2F (R239). -/
def execCpl (s : State) : Result := .next (s.complementA)

/-- `INC (HL)`, 0x34 (R235). -/
def execIncAtHL (s : State) : Result := .next (s.incrementOperand .atHL)

/-- `DEC (HL)`, 0x35 (R237). -/
def execDecAtHL (s : State) : Result := .next (s.decrementOperand .atHL)

/-- `SCF`, 0x37 (R240). -/
def execScf (s : State) : Result := .next (s.setCarry)

/-- `INC A`, 0x3C (R234). -/
def execIncA (s : State) : Result := .next (s.incrementOperand (.reg .a))

/-- `DEC A`, 0x3D (R236). -/
def execDecA (s : State) : Result := .next (s.decrementOperand (.reg .a))

/-- `CCF`, 0x3F (R241). -/
def execCcf (s : State) : Result := .next (s.complementCarry)

/-- `ADD A,B`, 0x80 (R210). -/
def execAddAB (s : State) : Result := .next (s.aluOperand .add (.reg .b))

/-- `ADD A,C`, 0x81 (R210). -/
def execAddAC (s : State) : Result := .next (s.aluOperand .add (.reg .c))

/-- `ADD A,D`, 0x82 (R210). -/
def execAddAD (s : State) : Result := .next (s.aluOperand .add (.reg .d))

/-- `ADD A,E`, 0x83 (R210). -/
def execAddAE (s : State) : Result := .next (s.aluOperand .add (.reg .e))

/-- `ADD A,H`, 0x84 (R210). -/
def execAddAH (s : State) : Result := .next (s.aluOperand .add (.reg .h))

/-- `ADD A,L`, 0x85 (R210). -/
def execAddAL (s : State) : Result := .next (s.aluOperand .add (.reg .l))

/-- `ADD A,(HL)`, 0x86 (R211). -/
def execAddAAtHL (s : State) : Result := .next (s.aluOperand .add .atHL)

/-- `ADD A,A`, 0x87 (R210). -/
def execAddAA (s : State) : Result := .next (s.aluOperand .add (.reg .a))

/-- `ADC A,B`, 0x88 (R213). -/
def execAdcAB (s : State) : Result := .next (s.aluOperand .adc (.reg .b))

/-- `ADC A,C`, 0x89 (R213). -/
def execAdcAC (s : State) : Result := .next (s.aluOperand .adc (.reg .c))

/-- `ADC A,D`, 0x8A (R213). -/
def execAdcAD (s : State) : Result := .next (s.aluOperand .adc (.reg .d))

/-- `ADC A,E`, 0x8B (R213). -/
def execAdcAE (s : State) : Result := .next (s.aluOperand .adc (.reg .e))

/-- `ADC A,H`, 0x8C (R213). -/
def execAdcAH (s : State) : Result := .next (s.aluOperand .adc (.reg .h))

/-- `ADC A,L`, 0x8D (R213). -/
def execAdcAL (s : State) : Result := .next (s.aluOperand .adc (.reg .l))

/-- `ADC A,(HL)`, 0x8E (R214). -/
def execAdcAAtHL (s : State) : Result := .next (s.aluOperand .adc .atHL)

/-- `ADC A,A`, 0x8F (R213). -/
def execAdcAA (s : State) : Result := .next (s.aluOperand .adc (.reg .a))

/-- `SUB B`, 0x90 (R216). -/
def execSubB (s : State) : Result := .next (s.aluOperand .sub (.reg .b))

/-- `SUB C`, 0x91 (R216). -/
def execSubC (s : State) : Result := .next (s.aluOperand .sub (.reg .c))

/-- `SUB D`, 0x92 (R216). -/
def execSubD (s : State) : Result := .next (s.aluOperand .sub (.reg .d))

/-- `SUB E`, 0x93 (R216). -/
def execSubE (s : State) : Result := .next (s.aluOperand .sub (.reg .e))

/-- `SUB H`, 0x94 (R216). -/
def execSubH (s : State) : Result := .next (s.aluOperand .sub (.reg .h))

/-- `SUB L`, 0x95 (R216). -/
def execSubL (s : State) : Result := .next (s.aluOperand .sub (.reg .l))

/-- `SUB (HL)`, 0x96 (R217). -/
def execSubAtHL (s : State) : Result := .next (s.aluOperand .sub .atHL)

/-- `SUB A`, 0x97 (R216). -/
def execSubA (s : State) : Result := .next (s.aluOperand .sub (.reg .a))

/-- `SBC A,B`, 0x98 (R219). -/
def execSbcAB (s : State) : Result := .next (s.aluOperand .sbc (.reg .b))

/-- `SBC A,C`, 0x99 (R219). -/
def execSbcAC (s : State) : Result := .next (s.aluOperand .sbc (.reg .c))

/-- `SBC A,D`, 0x9A (R219). -/
def execSbcAD (s : State) : Result := .next (s.aluOperand .sbc (.reg .d))

/-- `SBC A,E`, 0x9B (R219). -/
def execSbcAE (s : State) : Result := .next (s.aluOperand .sbc (.reg .e))

/-- `SBC A,H`, 0x9C (R219). -/
def execSbcAH (s : State) : Result := .next (s.aluOperand .sbc (.reg .h))

/-- `SBC A,L`, 0x9D (R219). -/
def execSbcAL (s : State) : Result := .next (s.aluOperand .sbc (.reg .l))

/-- `SBC A,(HL)`, 0x9E (R220). -/
def execSbcAAtHL (s : State) : Result := .next (s.aluOperand .sbc .atHL)

/-- `SBC A,A`, 0x9F (R219). -/
def execSbcAA (s : State) : Result := .next (s.aluOperand .sbc (.reg .a))

/-- `AND B`, 0xA0 (R222). -/
def execAndB (s : State) : Result := .next (s.aluOperand .and (.reg .b))

/-- `AND C`, 0xA1 (R222). -/
def execAndC (s : State) : Result := .next (s.aluOperand .and (.reg .c))

/-- `AND D`, 0xA2 (R222). -/
def execAndD (s : State) : Result := .next (s.aluOperand .and (.reg .d))

/-- `AND E`, 0xA3 (R222). -/
def execAndE (s : State) : Result := .next (s.aluOperand .and (.reg .e))

/-- `AND H`, 0xA4 (R222). -/
def execAndH (s : State) : Result := .next (s.aluOperand .and (.reg .h))

/-- `AND L`, 0xA5 (R222). -/
def execAndL (s : State) : Result := .next (s.aluOperand .and (.reg .l))

/-- `AND (HL)`, 0xA6 (R223). -/
def execAndAtHL (s : State) : Result := .next (s.aluOperand .and .atHL)

/-- `AND A`, 0xA7 (R222). -/
def execAndA (s : State) : Result := .next (s.aluOperand .and (.reg .a))

/-- `XOR B`, 0xA8 (R225). -/
def execXorB (s : State) : Result := .next (s.aluOperand .xor (.reg .b))

/-- `XOR C`, 0xA9 (R225). -/
def execXorC (s : State) : Result := .next (s.aluOperand .xor (.reg .c))

/-- `XOR D`, 0xAA (R225). -/
def execXorD (s : State) : Result := .next (s.aluOperand .xor (.reg .d))

/-- `XOR E`, 0xAB (R225). -/
def execXorE (s : State) : Result := .next (s.aluOperand .xor (.reg .e))

/-- `XOR H`, 0xAC (R225). -/
def execXorH (s : State) : Result := .next (s.aluOperand .xor (.reg .h))

/-- `XOR L`, 0xAD (R225). -/
def execXorL (s : State) : Result := .next (s.aluOperand .xor (.reg .l))

/-- `XOR (HL)`, 0xAE (R226). -/
def execXorAtHL (s : State) : Result := .next (s.aluOperand .xor .atHL)

/-- `XOR A`, 0xAF (R225). -/
def execXorA (s : State) : Result := .next (s.aluOperand .xor (.reg .a))

/-- `OR B`, 0xB0 (R228). -/
def execOrB (s : State) : Result := .next (s.aluOperand .or (.reg .b))

/-- `OR C`, 0xB1 (R228). -/
def execOrC (s : State) : Result := .next (s.aluOperand .or (.reg .c))

/-- `OR D`, 0xB2 (R228). -/
def execOrD (s : State) : Result := .next (s.aluOperand .or (.reg .d))

/-- `OR E`, 0xB3 (R228). -/
def execOrE (s : State) : Result := .next (s.aluOperand .or (.reg .e))

/-- `OR H`, 0xB4 (R228). -/
def execOrH (s : State) : Result := .next (s.aluOperand .or (.reg .h))

/-- `OR L`, 0xB5 (R228). -/
def execOrL (s : State) : Result := .next (s.aluOperand .or (.reg .l))

/-- `OR (HL)`, 0xB6 (R229). -/
def execOrAtHL (s : State) : Result := .next (s.aluOperand .or .atHL)

/-- `OR A`, 0xB7 (R228). -/
def execOrA (s : State) : Result := .next (s.aluOperand .or (.reg .a))

/-- `CP B`, 0xB8 (R231). -/
def execCpB (s : State) : Result := .next (s.aluOperand .cp (.reg .b))

/-- `CP C`, 0xB9 (R231). -/
def execCpC (s : State) : Result := .next (s.aluOperand .cp (.reg .c))

/-- `CP D`, 0xBA (R231). -/
def execCpD (s : State) : Result := .next (s.aluOperand .cp (.reg .d))

/-- `CP E`, 0xBB (R231). -/
def execCpE (s : State) : Result := .next (s.aluOperand .cp (.reg .e))

/-- `CP H`, 0xBC (R231). -/
def execCpH (s : State) : Result := .next (s.aluOperand .cp (.reg .h))

/-- `CP L`, 0xBD (R231). -/
def execCpL (s : State) : Result := .next (s.aluOperand .cp (.reg .l))

/-- `CP (HL)`, 0xBE (R232). -/
def execCpAtHL (s : State) : Result := .next (s.aluOperand .cp .atHL)

/-- `CP A`, 0xBF (R231). -/
def execCpA (s : State) : Result := .next (s.aluOperand .cp (.reg .a))

/-- `ADD A,n8`, 0xC6 (R212). -/
def execAddAN8 (n8 : Byte) (s : State) : Result := .next (s.applyAlu .add n8)

/-- `ADC A,n8`, 0xCE (R215). -/
def execAdcAN8 (n8 : Byte) (s : State) : Result := .next (s.applyAlu .adc n8)

/-- `SUB n8`, 0xD6 (R218). -/
def execSubN8 (n8 : Byte) (s : State) : Result := .next (s.applyAlu .sub n8)

/-- `SBC A,n8`, 0xDE (R221). -/
def execSbcAN8 (n8 : Byte) (s : State) : Result := .next (s.applyAlu .sbc n8)

/-- `AND n8`, 0xE6 (R224). -/
def execAndN8 (n8 : Byte) (s : State) : Result := .next (s.applyAlu .and n8)

/-- `XOR n8`, 0xEE (R227). -/
def execXorN8 (n8 : Byte) (s : State) : Result := .next (s.applyAlu .xor n8)

/-- `OR n8`, 0xF6 (R230). -/
def execOrN8 (n8 : Byte) (s : State) : Result := .next (s.applyAlu .or n8)

/-- `CP n8`, 0xFE (R233). -/
def execCpN8 (n8 : Byte) (s : State) : Result := .next (s.applyAlu .cp n8)

end Sys2Proof.Machine
end

