-- ==== Sys2Proof/Machine/BitOps.lean ====
section
/-! DEFINITION. Bit test, reset and set (44_rotate_shift_bit.md, R626 to R631). -/

namespace Sys2Proof.Machine

/-! ### The shared operations -/

/-- `BIT` (R626, R627): the operand is read only. -/
def State.testBit (s : State) (b : Fin 8) (x : Operand8) : State :=
  let v := s.readOperand x
  v.2.setFlags (!v.1.getLsbD b.val) false true v.2.flagC

/-- `RES` (R628, R629): the write happens whatever the bit was. -/
def State.resetBit (s : State) (b : Fin 8) (x : Operand8) : State :=
  let v := s.readOperand x
  v.2.writeOperand x (v.1 &&& ~~~(bitMask b))

/-- `SET` (R630, R631). -/
def State.assertBit (s : State) (b : Fin 8) (x : Operand8) : State :=
  let v := s.readOperand x
  v.2.writeOperand x (v.1 ||| bitMask b)

/-! ### The instructions, one meaning each, in the order of spec/opcode_table.json -/

/-- `BIT 0,B`, 0xCB40 (R626). -/
def execBit0B (s : State) : Result := .next (s.testBit 0 (.reg .b))

/-- `BIT 0,C`, 0xCB41 (R626). -/
def execBit0C (s : State) : Result := .next (s.testBit 0 (.reg .c))

/-- `BIT 0,D`, 0xCB42 (R626). -/
def execBit0D (s : State) : Result := .next (s.testBit 0 (.reg .d))

/-- `BIT 0,E`, 0xCB43 (R626). -/
def execBit0E (s : State) : Result := .next (s.testBit 0 (.reg .e))

/-- `BIT 0,H`, 0xCB44 (R626). -/
def execBit0H (s : State) : Result := .next (s.testBit 0 (.reg .h))

/-- `BIT 0,L`, 0xCB45 (R626). -/
def execBit0L (s : State) : Result := .next (s.testBit 0 (.reg .l))

/-- `BIT 0,(HL)`, 0xCB46 (R627). -/
def execBit0AtHL (s : State) : Result := .next (s.testBit 0 .atHL)

/-- `BIT 0,A`, 0xCB47 (R626). -/
def execBit0A (s : State) : Result := .next (s.testBit 0 (.reg .a))

/-- `BIT 1,B`, 0xCB48 (R626). -/
def execBit1B (s : State) : Result := .next (s.testBit 1 (.reg .b))

/-- `BIT 1,C`, 0xCB49 (R626). -/
def execBit1C (s : State) : Result := .next (s.testBit 1 (.reg .c))

/-- `BIT 1,D`, 0xCB4A (R626). -/
def execBit1D (s : State) : Result := .next (s.testBit 1 (.reg .d))

/-- `BIT 1,E`, 0xCB4B (R626). -/
def execBit1E (s : State) : Result := .next (s.testBit 1 (.reg .e))

/-- `BIT 1,H`, 0xCB4C (R626). -/
def execBit1H (s : State) : Result := .next (s.testBit 1 (.reg .h))

/-- `BIT 1,L`, 0xCB4D (R626). -/
def execBit1L (s : State) : Result := .next (s.testBit 1 (.reg .l))

/-- `BIT 1,(HL)`, 0xCB4E (R627). -/
def execBit1AtHL (s : State) : Result := .next (s.testBit 1 .atHL)

/-- `BIT 1,A`, 0xCB4F (R626). -/
def execBit1A (s : State) : Result := .next (s.testBit 1 (.reg .a))

/-- `BIT 2,B`, 0xCB50 (R626). -/
def execBit2B (s : State) : Result := .next (s.testBit 2 (.reg .b))

/-- `BIT 2,C`, 0xCB51 (R626). -/
def execBit2C (s : State) : Result := .next (s.testBit 2 (.reg .c))

/-- `BIT 2,D`, 0xCB52 (R626). -/
def execBit2D (s : State) : Result := .next (s.testBit 2 (.reg .d))

/-- `BIT 2,E`, 0xCB53 (R626). -/
def execBit2E (s : State) : Result := .next (s.testBit 2 (.reg .e))

/-- `BIT 2,H`, 0xCB54 (R626). -/
def execBit2H (s : State) : Result := .next (s.testBit 2 (.reg .h))

/-- `BIT 2,L`, 0xCB55 (R626). -/
def execBit2L (s : State) : Result := .next (s.testBit 2 (.reg .l))

/-- `BIT 2,(HL)`, 0xCB56 (R627). -/
def execBit2AtHL (s : State) : Result := .next (s.testBit 2 .atHL)

/-- `BIT 2,A`, 0xCB57 (R626). -/
def execBit2A (s : State) : Result := .next (s.testBit 2 (.reg .a))

/-- `BIT 3,B`, 0xCB58 (R626). -/
def execBit3B (s : State) : Result := .next (s.testBit 3 (.reg .b))

/-- `BIT 3,C`, 0xCB59 (R626). -/
def execBit3C (s : State) : Result := .next (s.testBit 3 (.reg .c))

/-- `BIT 3,D`, 0xCB5A (R626). -/
def execBit3D (s : State) : Result := .next (s.testBit 3 (.reg .d))

/-- `BIT 3,E`, 0xCB5B (R626). -/
def execBit3E (s : State) : Result := .next (s.testBit 3 (.reg .e))

/-- `BIT 3,H`, 0xCB5C (R626). -/
def execBit3H (s : State) : Result := .next (s.testBit 3 (.reg .h))

/-- `BIT 3,L`, 0xCB5D (R626). -/
def execBit3L (s : State) : Result := .next (s.testBit 3 (.reg .l))

/-- `BIT 3,(HL)`, 0xCB5E (R627). -/
def execBit3AtHL (s : State) : Result := .next (s.testBit 3 .atHL)

/-- `BIT 3,A`, 0xCB5F (R626). -/
def execBit3A (s : State) : Result := .next (s.testBit 3 (.reg .a))

/-- `BIT 4,B`, 0xCB60 (R626). -/
def execBit4B (s : State) : Result := .next (s.testBit 4 (.reg .b))

/-- `BIT 4,C`, 0xCB61 (R626). -/
def execBit4C (s : State) : Result := .next (s.testBit 4 (.reg .c))

/-- `BIT 4,D`, 0xCB62 (R626). -/
def execBit4D (s : State) : Result := .next (s.testBit 4 (.reg .d))

/-- `BIT 4,E`, 0xCB63 (R626). -/
def execBit4E (s : State) : Result := .next (s.testBit 4 (.reg .e))

/-- `BIT 4,H`, 0xCB64 (R626). -/
def execBit4H (s : State) : Result := .next (s.testBit 4 (.reg .h))

/-- `BIT 4,L`, 0xCB65 (R626). -/
def execBit4L (s : State) : Result := .next (s.testBit 4 (.reg .l))

/-- `BIT 4,(HL)`, 0xCB66 (R627). -/
def execBit4AtHL (s : State) : Result := .next (s.testBit 4 .atHL)

/-- `BIT 4,A`, 0xCB67 (R626). -/
def execBit4A (s : State) : Result := .next (s.testBit 4 (.reg .a))

/-- `BIT 5,B`, 0xCB68 (R626). -/
def execBit5B (s : State) : Result := .next (s.testBit 5 (.reg .b))

/-- `BIT 5,C`, 0xCB69 (R626). -/
def execBit5C (s : State) : Result := .next (s.testBit 5 (.reg .c))

/-- `BIT 5,D`, 0xCB6A (R626). -/
def execBit5D (s : State) : Result := .next (s.testBit 5 (.reg .d))

/-- `BIT 5,E`, 0xCB6B (R626). -/
def execBit5E (s : State) : Result := .next (s.testBit 5 (.reg .e))

/-- `BIT 5,H`, 0xCB6C (R626). -/
def execBit5H (s : State) : Result := .next (s.testBit 5 (.reg .h))

/-- `BIT 5,L`, 0xCB6D (R626). -/
def execBit5L (s : State) : Result := .next (s.testBit 5 (.reg .l))

/-- `BIT 5,(HL)`, 0xCB6E (R627). -/
def execBit5AtHL (s : State) : Result := .next (s.testBit 5 .atHL)

/-- `BIT 5,A`, 0xCB6F (R626). -/
def execBit5A (s : State) : Result := .next (s.testBit 5 (.reg .a))

/-- `BIT 6,B`, 0xCB70 (R626). -/
def execBit6B (s : State) : Result := .next (s.testBit 6 (.reg .b))

/-- `BIT 6,C`, 0xCB71 (R626). -/
def execBit6C (s : State) : Result := .next (s.testBit 6 (.reg .c))

/-- `BIT 6,D`, 0xCB72 (R626). -/
def execBit6D (s : State) : Result := .next (s.testBit 6 (.reg .d))

/-- `BIT 6,E`, 0xCB73 (R626). -/
def execBit6E (s : State) : Result := .next (s.testBit 6 (.reg .e))

/-- `BIT 6,H`, 0xCB74 (R626). -/
def execBit6H (s : State) : Result := .next (s.testBit 6 (.reg .h))

/-- `BIT 6,L`, 0xCB75 (R626). -/
def execBit6L (s : State) : Result := .next (s.testBit 6 (.reg .l))

/-- `BIT 6,(HL)`, 0xCB76 (R627). -/
def execBit6AtHL (s : State) : Result := .next (s.testBit 6 .atHL)

/-- `BIT 6,A`, 0xCB77 (R626). -/
def execBit6A (s : State) : Result := .next (s.testBit 6 (.reg .a))

/-- `BIT 7,B`, 0xCB78 (R626). -/
def execBit7B (s : State) : Result := .next (s.testBit 7 (.reg .b))

/-- `BIT 7,C`, 0xCB79 (R626). -/
def execBit7C (s : State) : Result := .next (s.testBit 7 (.reg .c))

/-- `BIT 7,D`, 0xCB7A (R626). -/
def execBit7D (s : State) : Result := .next (s.testBit 7 (.reg .d))

/-- `BIT 7,E`, 0xCB7B (R626). -/
def execBit7E (s : State) : Result := .next (s.testBit 7 (.reg .e))

/-- `BIT 7,H`, 0xCB7C (R626). -/
def execBit7H (s : State) : Result := .next (s.testBit 7 (.reg .h))

/-- `BIT 7,L`, 0xCB7D (R626). -/
def execBit7L (s : State) : Result := .next (s.testBit 7 (.reg .l))

/-- `BIT 7,(HL)`, 0xCB7E (R627). -/
def execBit7AtHL (s : State) : Result := .next (s.testBit 7 .atHL)

/-- `BIT 7,A`, 0xCB7F (R626). -/
def execBit7A (s : State) : Result := .next (s.testBit 7 (.reg .a))

/-- `RES 0,B`, 0xCB80 (R628). -/
def execRes0B (s : State) : Result := .next (s.resetBit 0 (.reg .b))

/-- `RES 0,C`, 0xCB81 (R628). -/
def execRes0C (s : State) : Result := .next (s.resetBit 0 (.reg .c))

/-- `RES 0,D`, 0xCB82 (R628). -/
def execRes0D (s : State) : Result := .next (s.resetBit 0 (.reg .d))

/-- `RES 0,E`, 0xCB83 (R628). -/
def execRes0E (s : State) : Result := .next (s.resetBit 0 (.reg .e))

/-- `RES 0,H`, 0xCB84 (R628). -/
def execRes0H (s : State) : Result := .next (s.resetBit 0 (.reg .h))

/-- `RES 0,L`, 0xCB85 (R628). -/
def execRes0L (s : State) : Result := .next (s.resetBit 0 (.reg .l))

/-- `RES 0,(HL)`, 0xCB86 (R629). -/
def execRes0AtHL (s : State) : Result := .next (s.resetBit 0 .atHL)

/-- `RES 0,A`, 0xCB87 (R628). -/
def execRes0A (s : State) : Result := .next (s.resetBit 0 (.reg .a))

/-- `RES 1,B`, 0xCB88 (R628). -/
def execRes1B (s : State) : Result := .next (s.resetBit 1 (.reg .b))

/-- `RES 1,C`, 0xCB89 (R628). -/
def execRes1C (s : State) : Result := .next (s.resetBit 1 (.reg .c))

/-- `RES 1,D`, 0xCB8A (R628). -/
def execRes1D (s : State) : Result := .next (s.resetBit 1 (.reg .d))

/-- `RES 1,E`, 0xCB8B (R628). -/
def execRes1E (s : State) : Result := .next (s.resetBit 1 (.reg .e))

/-- `RES 1,H`, 0xCB8C (R628). -/
def execRes1H (s : State) : Result := .next (s.resetBit 1 (.reg .h))

/-- `RES 1,L`, 0xCB8D (R628). -/
def execRes1L (s : State) : Result := .next (s.resetBit 1 (.reg .l))

/-- `RES 1,(HL)`, 0xCB8E (R629). -/
def execRes1AtHL (s : State) : Result := .next (s.resetBit 1 .atHL)

/-- `RES 1,A`, 0xCB8F (R628). -/
def execRes1A (s : State) : Result := .next (s.resetBit 1 (.reg .a))

/-- `RES 2,B`, 0xCB90 (R628). -/
def execRes2B (s : State) : Result := .next (s.resetBit 2 (.reg .b))

/-- `RES 2,C`, 0xCB91 (R628). -/
def execRes2C (s : State) : Result := .next (s.resetBit 2 (.reg .c))

/-- `RES 2,D`, 0xCB92 (R628). -/
def execRes2D (s : State) : Result := .next (s.resetBit 2 (.reg .d))

/-- `RES 2,E`, 0xCB93 (R628). -/
def execRes2E (s : State) : Result := .next (s.resetBit 2 (.reg .e))

/-- `RES 2,H`, 0xCB94 (R628). -/
def execRes2H (s : State) : Result := .next (s.resetBit 2 (.reg .h))

/-- `RES 2,L`, 0xCB95 (R628). -/
def execRes2L (s : State) : Result := .next (s.resetBit 2 (.reg .l))

/-- `RES 2,(HL)`, 0xCB96 (R629). -/
def execRes2AtHL (s : State) : Result := .next (s.resetBit 2 .atHL)

/-- `RES 2,A`, 0xCB97 (R628). -/
def execRes2A (s : State) : Result := .next (s.resetBit 2 (.reg .a))

/-- `RES 3,B`, 0xCB98 (R628). -/
def execRes3B (s : State) : Result := .next (s.resetBit 3 (.reg .b))

/-- `RES 3,C`, 0xCB99 (R628). -/
def execRes3C (s : State) : Result := .next (s.resetBit 3 (.reg .c))

/-- `RES 3,D`, 0xCB9A (R628). -/
def execRes3D (s : State) : Result := .next (s.resetBit 3 (.reg .d))

/-- `RES 3,E`, 0xCB9B (R628). -/
def execRes3E (s : State) : Result := .next (s.resetBit 3 (.reg .e))

/-- `RES 3,H`, 0xCB9C (R628). -/
def execRes3H (s : State) : Result := .next (s.resetBit 3 (.reg .h))

/-- `RES 3,L`, 0xCB9D (R628). -/
def execRes3L (s : State) : Result := .next (s.resetBit 3 (.reg .l))

/-- `RES 3,(HL)`, 0xCB9E (R629). -/
def execRes3AtHL (s : State) : Result := .next (s.resetBit 3 .atHL)

/-- `RES 3,A`, 0xCB9F (R628). -/
def execRes3A (s : State) : Result := .next (s.resetBit 3 (.reg .a))

/-- `RES 4,B`, 0xCBA0 (R628). -/
def execRes4B (s : State) : Result := .next (s.resetBit 4 (.reg .b))

/-- `RES 4,C`, 0xCBA1 (R628). -/
def execRes4C (s : State) : Result := .next (s.resetBit 4 (.reg .c))

/-- `RES 4,D`, 0xCBA2 (R628). -/
def execRes4D (s : State) : Result := .next (s.resetBit 4 (.reg .d))

/-- `RES 4,E`, 0xCBA3 (R628). -/
def execRes4E (s : State) : Result := .next (s.resetBit 4 (.reg .e))

/-- `RES 4,H`, 0xCBA4 (R628). -/
def execRes4H (s : State) : Result := .next (s.resetBit 4 (.reg .h))

/-- `RES 4,L`, 0xCBA5 (R628). -/
def execRes4L (s : State) : Result := .next (s.resetBit 4 (.reg .l))

/-- `RES 4,(HL)`, 0xCBA6 (R629). -/
def execRes4AtHL (s : State) : Result := .next (s.resetBit 4 .atHL)

/-- `RES 4,A`, 0xCBA7 (R628). -/
def execRes4A (s : State) : Result := .next (s.resetBit 4 (.reg .a))

/-- `RES 5,B`, 0xCBA8 (R628). -/
def execRes5B (s : State) : Result := .next (s.resetBit 5 (.reg .b))

/-- `RES 5,C`, 0xCBA9 (R628). -/
def execRes5C (s : State) : Result := .next (s.resetBit 5 (.reg .c))

/-- `RES 5,D`, 0xCBAA (R628). -/
def execRes5D (s : State) : Result := .next (s.resetBit 5 (.reg .d))

/-- `RES 5,E`, 0xCBAB (R628). -/
def execRes5E (s : State) : Result := .next (s.resetBit 5 (.reg .e))

/-- `RES 5,H`, 0xCBAC (R628). -/
def execRes5H (s : State) : Result := .next (s.resetBit 5 (.reg .h))

/-- `RES 5,L`, 0xCBAD (R628). -/
def execRes5L (s : State) : Result := .next (s.resetBit 5 (.reg .l))

/-- `RES 5,(HL)`, 0xCBAE (R629). -/
def execRes5AtHL (s : State) : Result := .next (s.resetBit 5 .atHL)

/-- `RES 5,A`, 0xCBAF (R628). -/
def execRes5A (s : State) : Result := .next (s.resetBit 5 (.reg .a))

/-- `RES 6,B`, 0xCBB0 (R628). -/
def execRes6B (s : State) : Result := .next (s.resetBit 6 (.reg .b))

/-- `RES 6,C`, 0xCBB1 (R628). -/
def execRes6C (s : State) : Result := .next (s.resetBit 6 (.reg .c))

/-- `RES 6,D`, 0xCBB2 (R628). -/
def execRes6D (s : State) : Result := .next (s.resetBit 6 (.reg .d))

/-- `RES 6,E`, 0xCBB3 (R628). -/
def execRes6E (s : State) : Result := .next (s.resetBit 6 (.reg .e))

/-- `RES 6,H`, 0xCBB4 (R628). -/
def execRes6H (s : State) : Result := .next (s.resetBit 6 (.reg .h))

/-- `RES 6,L`, 0xCBB5 (R628). -/
def execRes6L (s : State) : Result := .next (s.resetBit 6 (.reg .l))

/-- `RES 6,(HL)`, 0xCBB6 (R629). -/
def execRes6AtHL (s : State) : Result := .next (s.resetBit 6 .atHL)

/-- `RES 6,A`, 0xCBB7 (R628). -/
def execRes6A (s : State) : Result := .next (s.resetBit 6 (.reg .a))

/-- `RES 7,B`, 0xCBB8 (R628). -/
def execRes7B (s : State) : Result := .next (s.resetBit 7 (.reg .b))

/-- `RES 7,C`, 0xCBB9 (R628). -/
def execRes7C (s : State) : Result := .next (s.resetBit 7 (.reg .c))

/-- `RES 7,D`, 0xCBBA (R628). -/
def execRes7D (s : State) : Result := .next (s.resetBit 7 (.reg .d))

/-- `RES 7,E`, 0xCBBB (R628). -/
def execRes7E (s : State) : Result := .next (s.resetBit 7 (.reg .e))

/-- `RES 7,H`, 0xCBBC (R628). -/
def execRes7H (s : State) : Result := .next (s.resetBit 7 (.reg .h))

/-- `RES 7,L`, 0xCBBD (R628). -/
def execRes7L (s : State) : Result := .next (s.resetBit 7 (.reg .l))

/-- `RES 7,(HL)`, 0xCBBE (R629). -/
def execRes7AtHL (s : State) : Result := .next (s.resetBit 7 .atHL)

/-- `RES 7,A`, 0xCBBF (R628). -/
def execRes7A (s : State) : Result := .next (s.resetBit 7 (.reg .a))

/-- `SET 0,B`, 0xCBC0 (R630). -/
def execSet0B (s : State) : Result := .next (s.assertBit 0 (.reg .b))

/-- `SET 0,C`, 0xCBC1 (R630). -/
def execSet0C (s : State) : Result := .next (s.assertBit 0 (.reg .c))

/-- `SET 0,D`, 0xCBC2 (R630). -/
def execSet0D (s : State) : Result := .next (s.assertBit 0 (.reg .d))

/-- `SET 0,E`, 0xCBC3 (R630). -/
def execSet0E (s : State) : Result := .next (s.assertBit 0 (.reg .e))

/-- `SET 0,H`, 0xCBC4 (R630). -/
def execSet0H (s : State) : Result := .next (s.assertBit 0 (.reg .h))

/-- `SET 0,L`, 0xCBC5 (R630). -/
def execSet0L (s : State) : Result := .next (s.assertBit 0 (.reg .l))

/-- `SET 0,(HL)`, 0xCBC6 (R631). -/
def execSet0AtHL (s : State) : Result := .next (s.assertBit 0 .atHL)

/-- `SET 0,A`, 0xCBC7 (R630). -/
def execSet0A (s : State) : Result := .next (s.assertBit 0 (.reg .a))

/-- `SET 1,B`, 0xCBC8 (R630). -/
def execSet1B (s : State) : Result := .next (s.assertBit 1 (.reg .b))

/-- `SET 1,C`, 0xCBC9 (R630). -/
def execSet1C (s : State) : Result := .next (s.assertBit 1 (.reg .c))

/-- `SET 1,D`, 0xCBCA (R630). -/
def execSet1D (s : State) : Result := .next (s.assertBit 1 (.reg .d))

/-- `SET 1,E`, 0xCBCB (R630). -/
def execSet1E (s : State) : Result := .next (s.assertBit 1 (.reg .e))

/-- `SET 1,H`, 0xCBCC (R630). -/
def execSet1H (s : State) : Result := .next (s.assertBit 1 (.reg .h))

/-- `SET 1,L`, 0xCBCD (R630). -/
def execSet1L (s : State) : Result := .next (s.assertBit 1 (.reg .l))

/-- `SET 1,(HL)`, 0xCBCE (R631). -/
def execSet1AtHL (s : State) : Result := .next (s.assertBit 1 .atHL)

/-- `SET 1,A`, 0xCBCF (R630). -/
def execSet1A (s : State) : Result := .next (s.assertBit 1 (.reg .a))

/-- `SET 2,B`, 0xCBD0 (R630). -/
def execSet2B (s : State) : Result := .next (s.assertBit 2 (.reg .b))

/-- `SET 2,C`, 0xCBD1 (R630). -/
def execSet2C (s : State) : Result := .next (s.assertBit 2 (.reg .c))

/-- `SET 2,D`, 0xCBD2 (R630). -/
def execSet2D (s : State) : Result := .next (s.assertBit 2 (.reg .d))

/-- `SET 2,E`, 0xCBD3 (R630). -/
def execSet2E (s : State) : Result := .next (s.assertBit 2 (.reg .e))

/-- `SET 2,H`, 0xCBD4 (R630). -/
def execSet2H (s : State) : Result := .next (s.assertBit 2 (.reg .h))

/-- `SET 2,L`, 0xCBD5 (R630). -/
def execSet2L (s : State) : Result := .next (s.assertBit 2 (.reg .l))

/-- `SET 2,(HL)`, 0xCBD6 (R631). -/
def execSet2AtHL (s : State) : Result := .next (s.assertBit 2 .atHL)

/-- `SET 2,A`, 0xCBD7 (R630). -/
def execSet2A (s : State) : Result := .next (s.assertBit 2 (.reg .a))

/-- `SET 3,B`, 0xCBD8 (R630). -/
def execSet3B (s : State) : Result := .next (s.assertBit 3 (.reg .b))

/-- `SET 3,C`, 0xCBD9 (R630). -/
def execSet3C (s : State) : Result := .next (s.assertBit 3 (.reg .c))

/-- `SET 3,D`, 0xCBDA (R630). -/
def execSet3D (s : State) : Result := .next (s.assertBit 3 (.reg .d))

/-- `SET 3,E`, 0xCBDB (R630). -/
def execSet3E (s : State) : Result := .next (s.assertBit 3 (.reg .e))

/-- `SET 3,H`, 0xCBDC (R630). -/
def execSet3H (s : State) : Result := .next (s.assertBit 3 (.reg .h))

/-- `SET 3,L`, 0xCBDD (R630). -/
def execSet3L (s : State) : Result := .next (s.assertBit 3 (.reg .l))

/-- `SET 3,(HL)`, 0xCBDE (R631). -/
def execSet3AtHL (s : State) : Result := .next (s.assertBit 3 .atHL)

/-- `SET 3,A`, 0xCBDF (R630). -/
def execSet3A (s : State) : Result := .next (s.assertBit 3 (.reg .a))

/-- `SET 4,B`, 0xCBE0 (R630). -/
def execSet4B (s : State) : Result := .next (s.assertBit 4 (.reg .b))

/-- `SET 4,C`, 0xCBE1 (R630). -/
def execSet4C (s : State) : Result := .next (s.assertBit 4 (.reg .c))

/-- `SET 4,D`, 0xCBE2 (R630). -/
def execSet4D (s : State) : Result := .next (s.assertBit 4 (.reg .d))

/-- `SET 4,E`, 0xCBE3 (R630). -/
def execSet4E (s : State) : Result := .next (s.assertBit 4 (.reg .e))

/-- `SET 4,H`, 0xCBE4 (R630). -/
def execSet4H (s : State) : Result := .next (s.assertBit 4 (.reg .h))

/-- `SET 4,L`, 0xCBE5 (R630). -/
def execSet4L (s : State) : Result := .next (s.assertBit 4 (.reg .l))

/-- `SET 4,(HL)`, 0xCBE6 (R631). -/
def execSet4AtHL (s : State) : Result := .next (s.assertBit 4 .atHL)

/-- `SET 4,A`, 0xCBE7 (R630). -/
def execSet4A (s : State) : Result := .next (s.assertBit 4 (.reg .a))

/-- `SET 5,B`, 0xCBE8 (R630). -/
def execSet5B (s : State) : Result := .next (s.assertBit 5 (.reg .b))

/-- `SET 5,C`, 0xCBE9 (R630). -/
def execSet5C (s : State) : Result := .next (s.assertBit 5 (.reg .c))

/-- `SET 5,D`, 0xCBEA (R630). -/
def execSet5D (s : State) : Result := .next (s.assertBit 5 (.reg .d))

/-- `SET 5,E`, 0xCBEB (R630). -/
def execSet5E (s : State) : Result := .next (s.assertBit 5 (.reg .e))

/-- `SET 5,H`, 0xCBEC (R630). -/
def execSet5H (s : State) : Result := .next (s.assertBit 5 (.reg .h))

/-- `SET 5,L`, 0xCBED (R630). -/
def execSet5L (s : State) : Result := .next (s.assertBit 5 (.reg .l))

/-- `SET 5,(HL)`, 0xCBEE (R631). -/
def execSet5AtHL (s : State) : Result := .next (s.assertBit 5 .atHL)

/-- `SET 5,A`, 0xCBEF (R630). -/
def execSet5A (s : State) : Result := .next (s.assertBit 5 (.reg .a))

/-- `SET 6,B`, 0xCBF0 (R630). -/
def execSet6B (s : State) : Result := .next (s.assertBit 6 (.reg .b))

/-- `SET 6,C`, 0xCBF1 (R630). -/
def execSet6C (s : State) : Result := .next (s.assertBit 6 (.reg .c))

/-- `SET 6,D`, 0xCBF2 (R630). -/
def execSet6D (s : State) : Result := .next (s.assertBit 6 (.reg .d))

/-- `SET 6,E`, 0xCBF3 (R630). -/
def execSet6E (s : State) : Result := .next (s.assertBit 6 (.reg .e))

/-- `SET 6,H`, 0xCBF4 (R630). -/
def execSet6H (s : State) : Result := .next (s.assertBit 6 (.reg .h))

/-- `SET 6,L`, 0xCBF5 (R630). -/
def execSet6L (s : State) : Result := .next (s.assertBit 6 (.reg .l))

/-- `SET 6,(HL)`, 0xCBF6 (R631). -/
def execSet6AtHL (s : State) : Result := .next (s.assertBit 6 .atHL)

/-- `SET 6,A`, 0xCBF7 (R630). -/
def execSet6A (s : State) : Result := .next (s.assertBit 6 (.reg .a))

/-- `SET 7,B`, 0xCBF8 (R630). -/
def execSet7B (s : State) : Result := .next (s.assertBit 7 (.reg .b))

/-- `SET 7,C`, 0xCBF9 (R630). -/
def execSet7C (s : State) : Result := .next (s.assertBit 7 (.reg .c))

/-- `SET 7,D`, 0xCBFA (R630). -/
def execSet7D (s : State) : Result := .next (s.assertBit 7 (.reg .d))

/-- `SET 7,E`, 0xCBFB (R630). -/
def execSet7E (s : State) : Result := .next (s.assertBit 7 (.reg .e))

/-- `SET 7,H`, 0xCBFC (R630). -/
def execSet7H (s : State) : Result := .next (s.assertBit 7 (.reg .h))

/-- `SET 7,L`, 0xCBFD (R630). -/
def execSet7L (s : State) : Result := .next (s.assertBit 7 (.reg .l))

/-- `SET 7,(HL)`, 0xCBFE (R631). -/
def execSet7AtHL (s : State) : Result := .next (s.assertBit 7 .atHL)

/-- `SET 7,A`, 0xCBFF (R630). -/
def execSet7A (s : State) : Result := .next (s.assertBit 7 (.reg .a))

end Sys2Proof.Machine
end

