-- ==== Sys2Proof/Machine/Control.lean ====
section
/-! DEFINITION. Control transfer (43_control.md, R500 to R510). `PC` holds the address of the instruction's
first byte while it executes (R140), so return addresses and relative targets count from there. -/

namespace Sys2Proof.Machine

/-! ### The shared operations -/

/-- A conditional jump: nothing changes where the condition is false (R142). -/
def State.jumpIf (s : State) (k : Cond) (target : Word) : State := if s.cond k then s.jump target else s

/-- The target of `JR`: `PC + 2 + sext_16(e)` (R503). -/
def State.relativeTarget (s : State) (e : Byte) : Word := s.pc + 2 + sext16 e

/-- `CALL a16` (R505). -/
def State.call (s : State) (target : Word) : State := (s.push16 (s.pc + 3)).jump target

/-- `CALL cc,a16`: the stack is not touched where the condition is false (R506). -/
def State.callIf (s : State) (k : Cond) (target : Word) : State := if s.cond k then s.call target else s

/-- `RET` (R507). -/
def State.returnTo (s : State) : State :=
  let t := s.pop16
  t.2.jump t.1

/-- `RET cc`: no stack read where the condition is false (R508). -/
def State.returnIf (s : State) (k : Cond) : State := if s.cond k then s.returnTo else s

/-- `RETI` (R509): the return, and `IME` is set at once (R906). -/
def State.returnFromInterrupt (s : State) : State := { s.returnTo with ime := true }

/-- `RST n` (R510). -/
def State.restart (s : State) (target : Word) : State := (s.push16 (s.pc + 1)).jump target

/-! ### The instructions, one meaning each, in the order of spec/opcode_table.json -/

/-- `JR e8`, 0x18 (R503). -/
def execJrE8 (e8 : Byte) (s : State) : Result := .next (s.jump (s.relativeTarget e8))

/-- `JR NZ,e8`, 0x20 (R504). -/
def execJrNZE8 (e8 : Byte) (s : State) : Result := .next (s.jumpIf .nz (s.relativeTarget e8))

/-- `JR Z,e8`, 0x28 (R504). -/
def execJrZE8 (e8 : Byte) (s : State) : Result := .next (s.jumpIf .z (s.relativeTarget e8))

/-- `JR NC,e8`, 0x30 (R504). -/
def execJrNCE8 (e8 : Byte) (s : State) : Result := .next (s.jumpIf .nc (s.relativeTarget e8))

/-- `JR C,e8`, 0x38 (R504). -/
def execJrCE8 (e8 : Byte) (s : State) : Result := .next (s.jumpIf .c (s.relativeTarget e8))

/-- `RET NZ`, 0xC0 (R508). -/
def execRetNZ (s : State) : Result := .next (s.returnIf .nz)

/-- `JP NZ,a16`, 0xC2 (R501). -/
def execJpNZA16 (a16 : Word) (s : State) : Result := .next (s.jumpIf .nz a16)

/-- `JP a16`, 0xC3 (R500). -/
def execJpA16 (a16 : Word) (s : State) : Result := .next (s.jump a16)

/-- `CALL NZ,a16`, 0xC4 (R506). -/
def execCallNZA16 (a16 : Word) (s : State) : Result := .next (s.callIf .nz a16)

/-- `RST 0x00`, 0xC7 (R510). -/
def execRst00 (s : State) : Result := .next (s.restart 0x00)

/-- `RET Z`, 0xC8 (R508). -/
def execRetZ (s : State) : Result := .next (s.returnIf .z)

/-- `RET`, 0xC9 (R507). -/
def execRet (s : State) : Result := .next (s.returnTo)

/-- `JP Z,a16`, 0xCA (R501). -/
def execJpZA16 (a16 : Word) (s : State) : Result := .next (s.jumpIf .z a16)

/-- `CALL Z,a16`, 0xCC (R506). -/
def execCallZA16 (a16 : Word) (s : State) : Result := .next (s.callIf .z a16)

/-- `CALL a16`, 0xCD (R505). -/
def execCallA16 (a16 : Word) (s : State) : Result := .next (s.call a16)

/-- `RST 0x08`, 0xCF (R510). -/
def execRst08 (s : State) : Result := .next (s.restart 0x08)

/-- `RET NC`, 0xD0 (R508). -/
def execRetNC (s : State) : Result := .next (s.returnIf .nc)

/-- `JP NC,a16`, 0xD2 (R501). -/
def execJpNCA16 (a16 : Word) (s : State) : Result := .next (s.jumpIf .nc a16)

/-- `CALL NC,a16`, 0xD4 (R506). -/
def execCallNCA16 (a16 : Word) (s : State) : Result := .next (s.callIf .nc a16)

/-- `RST 0x10`, 0xD7 (R510). -/
def execRst10 (s : State) : Result := .next (s.restart 0x10)

/-- `RET C`, 0xD8 (R508). -/
def execRetC (s : State) : Result := .next (s.returnIf .c)

/-- `RETI`, 0xD9 (R509). -/
def execReti (s : State) : Result := .next (s.returnFromInterrupt)

/-- `JP C,a16`, 0xDA (R501). -/
def execJpCA16 (a16 : Word) (s : State) : Result := .next (s.jumpIf .c a16)

/-- `CALL C,a16`, 0xDC (R506). -/
def execCallCA16 (a16 : Word) (s : State) : Result := .next (s.callIf .c a16)

/-- `RST 0x18`, 0xDF (R510). -/
def execRst18 (s : State) : Result := .next (s.restart 0x18)

/-- `RST 0x20`, 0xE7 (R510). -/
def execRst20 (s : State) : Result := .next (s.restart 0x20)

/-- `JP HL`, 0xE9 (R502). -/
def execJpHL (s : State) : Result := .next (s.jump s.hl)

/-- `RST 0x28`, 0xEF (R510). -/
def execRst28 (s : State) : Result := .next (s.restart 0x28)

/-- `RST 0x30`, 0xF7 (R510). -/
def execRst30 (s : State) : Result := .next (s.restart 0x30)

/-- `RST 0x38`, 0xFF (R510). -/
def execRst38 (s : State) : Result := .next (s.restart 0x38)

end Sys2Proof.Machine
end

