-- ==== Sys2Proof/Machine/Loads.lean ====
section
/-! DEFINITION. Loads, stores and stack transfers (41_loads.md, R300 to R325). None but `POP AF` writes a
flag. -/

namespace Sys2Proof.Machine

/-! ### The shared operations -/

/-- A copy between registers (R300). -/
def State.copyRegister (s : State) (dst src : Reg8) : State := s.setReg8 dst (s.reg8 src)

/-- A load of a register from an address; the address is read before the register changes (R301). -/
def State.loadRegister (s : State) (dst : Reg8) (addr : Word) : State :=
  let v := s.memRead addr
  v.2.setReg8 dst v.1

/-- A store of `A` to an address. -/
def State.storeA (s : State) (addr : Word) : State := s.memWrite addr s.a

/-- A store of `A` to `HL`, which then moves by `delta` (R309, R310). -/
def State.storeAStepHL (s : State) (delta : Word) : State := (s.storeA s.hl).setHL (s.hl + delta)

/-- A load of `A` from `HL`, which then moves by `delta` (R311, R312). -/
def State.loadAStepHL (s : State) (delta : Word) : State := (s.loadRegister .a s.hl).setHL (s.hl + delta)

/-- `PUSH` (R322, R323). -/
def State.pushPair (s : State) (p : StackPair) : State := s.push16 (s.stackPair p)

/-- `POP` (R324, R325). -/
def State.popPair (s : State) (p : StackPair) : State :=
  let v := s.pop16
  v.2.setStackPair p v.1

/-! ### The instructions, one meaning each, in the order of spec/opcode_table.json -/

/-- `LD BC,n16`, 0x01 (R319). -/
def execLdBCN16 (n16 : Word) (s : State) : Result := .next (s.setPair .bc n16)

/-- `LD (BC),A`, 0x02 (R305). -/
def execLdAtBCA (s : State) : Result := .next (s.storeA s.bc)

/-- `LD B,n8`, 0x06 (R303). -/
def execLdBN8 (n8 : Byte) (s : State) : Result := .next (s.setReg8 .b n8)

/-- `LD (a16),SP`, 0x08 (R320). -/
def execLdAtA16SP (a16 : Word) (s : State) : Result := .next (s.memWrite16 a16 s.sp)

/-- `LD A,(BC)`, 0x0A (R307). -/
def execLdAAtBC (s : State) : Result := .next (s.loadRegister .a s.bc)

/-- `LD C,n8`, 0x0E (R303). -/
def execLdCN8 (n8 : Byte) (s : State) : Result := .next (s.setReg8 .c n8)

/-- `LD DE,n16`, 0x11 (R319). -/
def execLdDEN16 (n16 : Word) (s : State) : Result := .next (s.setPair .de n16)

/-- `LD (DE),A`, 0x12 (R306). -/
def execLdAtDEA (s : State) : Result := .next (s.storeA s.de)

/-- `LD D,n8`, 0x16 (R303). -/
def execLdDN8 (n8 : Byte) (s : State) : Result := .next (s.setReg8 .d n8)

/-- `LD A,(DE)`, 0x1A (R308). -/
def execLdAAtDE (s : State) : Result := .next (s.loadRegister .a s.de)

/-- `LD E,n8`, 0x1E (R303). -/
def execLdEN8 (n8 : Byte) (s : State) : Result := .next (s.setReg8 .e n8)

/-- `LD HL,n16`, 0x21 (R319). -/
def execLdHLN16 (n16 : Word) (s : State) : Result := .next (s.setPair .hl n16)

/-- `LD (HL+),A`, 0x22 (R309). -/
def execLdAtHLIncA (s : State) : Result := .next (s.storeAStepHL 1)

/-- `LD H,n8`, 0x26 (R303). -/
def execLdHN8 (n8 : Byte) (s : State) : Result := .next (s.setReg8 .h n8)

/-- `LD A,(HL+)`, 0x2A (R311). -/
def execLdAAtHLInc (s : State) : Result := .next (s.loadAStepHL 1)

/-- `LD L,n8`, 0x2E (R303). -/
def execLdLN8 (n8 : Byte) (s : State) : Result := .next (s.setReg8 .l n8)

/-- `LD SP,n16`, 0x31 (R319). -/
def execLdSPN16 (n16 : Word) (s : State) : Result := .next (s.setPair .sp n16)

/-- `LD (HL-),A`, 0x32 (R310). -/
def execLdAtHLDecA (s : State) : Result := .next (s.storeAStepHL (-1))

/-- `LD (HL),n8`, 0x36 (R304). -/
def execLdAtHLN8 (n8 : Byte) (s : State) : Result := .next (s.memWrite s.hl n8)

/-- `LD A,(HL-)`, 0x3A (R312). -/
def execLdAAtHLDec (s : State) : Result := .next (s.loadAStepHL (-1))

/-- `LD A,n8`, 0x3E (R303). -/
def execLdAN8 (n8 : Byte) (s : State) : Result := .next (s.setReg8 .a n8)

/-- `LD B,B`, 0x40 (R300). -/
def execLdBB (s : State) : Result := .next (s.copyRegister .b .b)

/-- `LD B,C`, 0x41 (R300). -/
def execLdBC (s : State) : Result := .next (s.copyRegister .b .c)

/-- `LD B,D`, 0x42 (R300). -/
def execLdBD (s : State) : Result := .next (s.copyRegister .b .d)

/-- `LD B,E`, 0x43 (R300). -/
def execLdBE (s : State) : Result := .next (s.copyRegister .b .e)

/-- `LD B,H`, 0x44 (R300). -/
def execLdBH (s : State) : Result := .next (s.copyRegister .b .h)

/-- `LD B,L`, 0x45 (R300). -/
def execLdBL (s : State) : Result := .next (s.copyRegister .b .l)

/-- `LD B,(HL)`, 0x46 (R301). -/
def execLdBAtHL (s : State) : Result := .next (s.loadRegister .b s.hl)

/-- `LD B,A`, 0x47 (R300). -/
def execLdBA (s : State) : Result := .next (s.copyRegister .b .a)

/-- `LD C,B`, 0x48 (R300). -/
def execLdCB (s : State) : Result := .next (s.copyRegister .c .b)

/-- `LD C,C`, 0x49 (R300). -/
def execLdCC (s : State) : Result := .next (s.copyRegister .c .c)

/-- `LD C,D`, 0x4A (R300). -/
def execLdCD (s : State) : Result := .next (s.copyRegister .c .d)

/-- `LD C,E`, 0x4B (R300). -/
def execLdCE (s : State) : Result := .next (s.copyRegister .c .e)

/-- `LD C,H`, 0x4C (R300). -/
def execLdCH (s : State) : Result := .next (s.copyRegister .c .h)

/-- `LD C,L`, 0x4D (R300). -/
def execLdCL (s : State) : Result := .next (s.copyRegister .c .l)

/-- `LD C,(HL)`, 0x4E (R301). -/
def execLdCAtHL (s : State) : Result := .next (s.loadRegister .c s.hl)

/-- `LD C,A`, 0x4F (R300). -/
def execLdCA (s : State) : Result := .next (s.copyRegister .c .a)

/-- `LD D,B`, 0x50 (R300). -/
def execLdDB (s : State) : Result := .next (s.copyRegister .d .b)

/-- `LD D,C`, 0x51 (R300). -/
def execLdDC (s : State) : Result := .next (s.copyRegister .d .c)

/-- `LD D,D`, 0x52 (R300). -/
def execLdDD (s : State) : Result := .next (s.copyRegister .d .d)

/-- `LD D,E`, 0x53 (R300). -/
def execLdDE (s : State) : Result := .next (s.copyRegister .d .e)

/-- `LD D,H`, 0x54 (R300). -/
def execLdDH (s : State) : Result := .next (s.copyRegister .d .h)

/-- `LD D,L`, 0x55 (R300). -/
def execLdDL (s : State) : Result := .next (s.copyRegister .d .l)

/-- `LD D,(HL)`, 0x56 (R301). -/
def execLdDAtHL (s : State) : Result := .next (s.loadRegister .d s.hl)

/-- `LD D,A`, 0x57 (R300). -/
def execLdDA (s : State) : Result := .next (s.copyRegister .d .a)

/-- `LD E,B`, 0x58 (R300). -/
def execLdEB (s : State) : Result := .next (s.copyRegister .e .b)

/-- `LD E,C`, 0x59 (R300). -/
def execLdEC (s : State) : Result := .next (s.copyRegister .e .c)

/-- `LD E,D`, 0x5A (R300). -/
def execLdED (s : State) : Result := .next (s.copyRegister .e .d)

/-- `LD E,E`, 0x5B (R300). -/
def execLdEE (s : State) : Result := .next (s.copyRegister .e .e)

/-- `LD E,H`, 0x5C (R300). -/
def execLdEH (s : State) : Result := .next (s.copyRegister .e .h)

/-- `LD E,L`, 0x5D (R300). -/
def execLdEL (s : State) : Result := .next (s.copyRegister .e .l)

/-- `LD E,(HL)`, 0x5E (R301). -/
def execLdEAtHL (s : State) : Result := .next (s.loadRegister .e s.hl)

/-- `LD E,A`, 0x5F (R300). -/
def execLdEA (s : State) : Result := .next (s.copyRegister .e .a)

/-- `LD H,B`, 0x60 (R300). -/
def execLdHB (s : State) : Result := .next (s.copyRegister .h .b)

/-- `LD H,C`, 0x61 (R300). -/
def execLdHC (s : State) : Result := .next (s.copyRegister .h .c)

/-- `LD H,D`, 0x62 (R300). -/
def execLdHD (s : State) : Result := .next (s.copyRegister .h .d)

/-- `LD H,E`, 0x63 (R300). -/
def execLdHE (s : State) : Result := .next (s.copyRegister .h .e)

/-- `LD H,H`, 0x64 (R300). -/
def execLdHH (s : State) : Result := .next (s.copyRegister .h .h)

/-- `LD H,L`, 0x65 (R300). -/
def execLdHL (s : State) : Result := .next (s.copyRegister .h .l)

/-- `LD H,(HL)`, 0x66 (R301). -/
def execLdHAtHL (s : State) : Result := .next (s.loadRegister .h s.hl)

/-- `LD H,A`, 0x67 (R300). -/
def execLdHA (s : State) : Result := .next (s.copyRegister .h .a)

/-- `LD L,B`, 0x68 (R300). -/
def execLdLB (s : State) : Result := .next (s.copyRegister .l .b)

/-- `LD L,C`, 0x69 (R300). -/
def execLdLC (s : State) : Result := .next (s.copyRegister .l .c)

/-- `LD L,D`, 0x6A (R300). -/
def execLdLD (s : State) : Result := .next (s.copyRegister .l .d)

/-- `LD L,E`, 0x6B (R300). -/
def execLdLE (s : State) : Result := .next (s.copyRegister .l .e)

/-- `LD L,H`, 0x6C (R300). -/
def execLdLH (s : State) : Result := .next (s.copyRegister .l .h)

/-- `LD L,L`, 0x6D (R300). -/
def execLdLL (s : State) : Result := .next (s.copyRegister .l .l)

/-- `LD L,(HL)`, 0x6E (R301). -/
def execLdLAtHL (s : State) : Result := .next (s.loadRegister .l s.hl)

/-- `LD L,A`, 0x6F (R300). -/
def execLdLA (s : State) : Result := .next (s.copyRegister .l .a)

/-- `LD (HL),B`, 0x70 (R302). -/
def execLdAtHLB (s : State) : Result := .next (s.memWrite s.hl (s.reg8 .b))

/-- `LD (HL),C`, 0x71 (R302). -/
def execLdAtHLC (s : State) : Result := .next (s.memWrite s.hl (s.reg8 .c))

/-- `LD (HL),D`, 0x72 (R302). -/
def execLdAtHLD (s : State) : Result := .next (s.memWrite s.hl (s.reg8 .d))

/-- `LD (HL),E`, 0x73 (R302). -/
def execLdAtHLE (s : State) : Result := .next (s.memWrite s.hl (s.reg8 .e))

/-- `LD (HL),H`, 0x74 (R302). -/
def execLdAtHLH (s : State) : Result := .next (s.memWrite s.hl (s.reg8 .h))

/-- `LD (HL),L`, 0x75 (R302). -/
def execLdAtHLL (s : State) : Result := .next (s.memWrite s.hl (s.reg8 .l))

/-- `LD (HL),A`, 0x77 (R302). -/
def execLdAtHLA (s : State) : Result := .next (s.memWrite s.hl (s.reg8 .a))

/-- `LD A,B`, 0x78 (R300). -/
def execLdAB (s : State) : Result := .next (s.copyRegister .a .b)

/-- `LD A,C`, 0x79 (R300). -/
def execLdAC (s : State) : Result := .next (s.copyRegister .a .c)

/-- `LD A,D`, 0x7A (R300). -/
def execLdAD (s : State) : Result := .next (s.copyRegister .a .d)

/-- `LD A,E`, 0x7B (R300). -/
def execLdAE (s : State) : Result := .next (s.copyRegister .a .e)

/-- `LD A,H`, 0x7C (R300). -/
def execLdAH (s : State) : Result := .next (s.copyRegister .a .h)

/-- `LD A,L`, 0x7D (R300). -/
def execLdAL (s : State) : Result := .next (s.copyRegister .a .l)

/-- `LD A,(HL)`, 0x7E (R301). -/
def execLdAAtHL (s : State) : Result := .next (s.loadRegister .a s.hl)

/-- `LD A,A`, 0x7F (R300). -/
def execLdAA (s : State) : Result := .next (s.copyRegister .a .a)

/-- `POP BC`, 0xC1 (R324). -/
def execPopBC (s : State) : Result := .next (s.popPair .bc)

/-- `PUSH BC`, 0xC5 (R322). -/
def execPushBC (s : State) : Result := .next (s.pushPair .bc)

/-- `POP DE`, 0xD1 (R324). -/
def execPopDE (s : State) : Result := .next (s.popPair .de)

/-- `PUSH DE`, 0xD5 (R322). -/
def execPushDE (s : State) : Result := .next (s.pushPair .de)

/-- `LDH (a8),A`, 0xE0 (R313). -/
def execLdhAtA8A (a8 : Byte) (s : State) : Result := .next (s.storeA (highPage a8))

/-- `POP HL`, 0xE1 (R324). -/
def execPopHL (s : State) : Result := .next (s.popPair .hl)

/-- `LDH (C),A`, 0xE2 (R315). -/
def execLdhAtCA (s : State) : Result := .next (s.storeA (highPage s.c))

/-- `PUSH HL`, 0xE5 (R322). -/
def execPushHL (s : State) : Result := .next (s.pushPair .hl)

/-- `LD (a16),A`, 0xEA (R317). -/
def execLdAtA16A (a16 : Word) (s : State) : Result := .next (s.storeA a16)

/-- `LDH A,(a8)`, 0xF0 (R314). -/
def execLdhAAtA8 (a8 : Byte) (s : State) : Result := .next (s.loadRegister .a (highPage a8))

/-- `POP AF`, 0xF1 (R325). -/
def execPopAF (s : State) : Result := .next (s.popPair .af)

/-- `LDH A,(C)`, 0xF2 (R316). -/
def execLdhAAtC (s : State) : Result := .next (s.loadRegister .a (highPage s.c))

/-- `PUSH AF`, 0xF5 (R323). -/
def execPushAF (s : State) : Result := .next (s.pushPair .af)

/-- `LD SP,HL`, 0xF9 (R321). -/
def execLdSPHL (s : State) : Result := .next (s.setPair .sp s.hl)

/-- `LD A,(a16)`, 0xFA (R318). -/
def execLdAAtA16 (a16 : Word) (s : State) : Result := .next (s.loadRegister .a a16)

end Sys2Proof.Machine
end

