-- ==== Sys2Proof/Machine/RotateShift.lean ====
section
/-! DEFINITION. Rotates, shifts and swap (44_rotate_shift_bit.md, R601 to R605 and R610 to R625). -/

namespace Sys2Proof.Machine

/-! ### The shared operations -/

/-- The accumulator rotates: `Z` is cleared whatever the result (R601 to R605). -/
def State.rotateA (s : State) (op : RotOp) : State :=
  let r := rotate op s.a s.flagC
  let s1 : State := { s with a := r.1 }
  s1.setFlags false false false r.2

/-- The extended rotates and shifts on a register or on the byte at `HL`, with the flags of R605. -/
def State.rotateOperand (s : State) (op : RotOp) (x : Operand8) : State :=
  let v := s.readOperand x
  let r := rotate op v.1 v.2.flagC
  (v.2.writeOperand x r.1).setFlags (r.1 == 0) false false r.2

/-! ### The instructions, one meaning each, in the order of spec/opcode_table.json -/

/-- `RLCA`, 0x07 (R601). -/
def execRlca (s : State) : Result := .next (s.rotateA .rlc)

/-- `RRCA`, 0x0F (R602). -/
def execRrca (s : State) : Result := .next (s.rotateA .rrc)

/-- `RLA`, 0x17 (R603). -/
def execRla (s : State) : Result := .next (s.rotateA .rl)

/-- `RRA`, 0x1F (R604). -/
def execRra (s : State) : Result := .next (s.rotateA .rr)

/-- `RLC B`, 0xCB00 (R610). -/
def execRlcB (s : State) : Result := .next (s.rotateOperand .rlc (.reg .b))

/-- `RLC C`, 0xCB01 (R610). -/
def execRlcC (s : State) : Result := .next (s.rotateOperand .rlc (.reg .c))

/-- `RLC D`, 0xCB02 (R610). -/
def execRlcD (s : State) : Result := .next (s.rotateOperand .rlc (.reg .d))

/-- `RLC E`, 0xCB03 (R610). -/
def execRlcE (s : State) : Result := .next (s.rotateOperand .rlc (.reg .e))

/-- `RLC H`, 0xCB04 (R610). -/
def execRlcH (s : State) : Result := .next (s.rotateOperand .rlc (.reg .h))

/-- `RLC L`, 0xCB05 (R610). -/
def execRlcL (s : State) : Result := .next (s.rotateOperand .rlc (.reg .l))

/-- `RLC (HL)`, 0xCB06 (R611). -/
def execRlcAtHL (s : State) : Result := .next (s.rotateOperand .rlc .atHL)

/-- `RLC A`, 0xCB07 (R610). -/
def execRlcA (s : State) : Result := .next (s.rotateOperand .rlc (.reg .a))

/-- `RRC B`, 0xCB08 (R612). -/
def execRrcB (s : State) : Result := .next (s.rotateOperand .rrc (.reg .b))

/-- `RRC C`, 0xCB09 (R612). -/
def execRrcC (s : State) : Result := .next (s.rotateOperand .rrc (.reg .c))

/-- `RRC D`, 0xCB0A (R612). -/
def execRrcD (s : State) : Result := .next (s.rotateOperand .rrc (.reg .d))

/-- `RRC E`, 0xCB0B (R612). -/
def execRrcE (s : State) : Result := .next (s.rotateOperand .rrc (.reg .e))

/-- `RRC H`, 0xCB0C (R612). -/
def execRrcH (s : State) : Result := .next (s.rotateOperand .rrc (.reg .h))

/-- `RRC L`, 0xCB0D (R612). -/
def execRrcL (s : State) : Result := .next (s.rotateOperand .rrc (.reg .l))

/-- `RRC (HL)`, 0xCB0E (R613). -/
def execRrcAtHL (s : State) : Result := .next (s.rotateOperand .rrc .atHL)

/-- `RRC A`, 0xCB0F (R612). -/
def execRrcA (s : State) : Result := .next (s.rotateOperand .rrc (.reg .a))

/-- `RL B`, 0xCB10 (R614). -/
def execRlB (s : State) : Result := .next (s.rotateOperand .rl (.reg .b))

/-- `RL C`, 0xCB11 (R614). -/
def execRlC (s : State) : Result := .next (s.rotateOperand .rl (.reg .c))

/-- `RL D`, 0xCB12 (R614). -/
def execRlD (s : State) : Result := .next (s.rotateOperand .rl (.reg .d))

/-- `RL E`, 0xCB13 (R614). -/
def execRlE (s : State) : Result := .next (s.rotateOperand .rl (.reg .e))

/-- `RL H`, 0xCB14 (R614). -/
def execRlH (s : State) : Result := .next (s.rotateOperand .rl (.reg .h))

/-- `RL L`, 0xCB15 (R614). -/
def execRlL (s : State) : Result := .next (s.rotateOperand .rl (.reg .l))

/-- `RL (HL)`, 0xCB16 (R615). -/
def execRlAtHL (s : State) : Result := .next (s.rotateOperand .rl .atHL)

/-- `RL A`, 0xCB17 (R614). -/
def execRlA (s : State) : Result := .next (s.rotateOperand .rl (.reg .a))

/-- `RR B`, 0xCB18 (R616). -/
def execRrB (s : State) : Result := .next (s.rotateOperand .rr (.reg .b))

/-- `RR C`, 0xCB19 (R616). -/
def execRrC (s : State) : Result := .next (s.rotateOperand .rr (.reg .c))

/-- `RR D`, 0xCB1A (R616). -/
def execRrD (s : State) : Result := .next (s.rotateOperand .rr (.reg .d))

/-- `RR E`, 0xCB1B (R616). -/
def execRrE (s : State) : Result := .next (s.rotateOperand .rr (.reg .e))

/-- `RR H`, 0xCB1C (R616). -/
def execRrH (s : State) : Result := .next (s.rotateOperand .rr (.reg .h))

/-- `RR L`, 0xCB1D (R616). -/
def execRrL (s : State) : Result := .next (s.rotateOperand .rr (.reg .l))

/-- `RR (HL)`, 0xCB1E (R617). -/
def execRrAtHL (s : State) : Result := .next (s.rotateOperand .rr .atHL)

/-- `RR A`, 0xCB1F (R616). -/
def execRrA (s : State) : Result := .next (s.rotateOperand .rr (.reg .a))

/-- `SLA B`, 0xCB20 (R618). -/
def execSlaB (s : State) : Result := .next (s.rotateOperand .sla (.reg .b))

/-- `SLA C`, 0xCB21 (R618). -/
def execSlaC (s : State) : Result := .next (s.rotateOperand .sla (.reg .c))

/-- `SLA D`, 0xCB22 (R618). -/
def execSlaD (s : State) : Result := .next (s.rotateOperand .sla (.reg .d))

/-- `SLA E`, 0xCB23 (R618). -/
def execSlaE (s : State) : Result := .next (s.rotateOperand .sla (.reg .e))

/-- `SLA H`, 0xCB24 (R618). -/
def execSlaH (s : State) : Result := .next (s.rotateOperand .sla (.reg .h))

/-- `SLA L`, 0xCB25 (R618). -/
def execSlaL (s : State) : Result := .next (s.rotateOperand .sla (.reg .l))

/-- `SLA (HL)`, 0xCB26 (R619). -/
def execSlaAtHL (s : State) : Result := .next (s.rotateOperand .sla .atHL)

/-- `SLA A`, 0xCB27 (R618). -/
def execSlaA (s : State) : Result := .next (s.rotateOperand .sla (.reg .a))

/-- `SRA B`, 0xCB28 (R620). -/
def execSraB (s : State) : Result := .next (s.rotateOperand .sra (.reg .b))

/-- `SRA C`, 0xCB29 (R620). -/
def execSraC (s : State) : Result := .next (s.rotateOperand .sra (.reg .c))

/-- `SRA D`, 0xCB2A (R620). -/
def execSraD (s : State) : Result := .next (s.rotateOperand .sra (.reg .d))

/-- `SRA E`, 0xCB2B (R620). -/
def execSraE (s : State) : Result := .next (s.rotateOperand .sra (.reg .e))

/-- `SRA H`, 0xCB2C (R620). -/
def execSraH (s : State) : Result := .next (s.rotateOperand .sra (.reg .h))

/-- `SRA L`, 0xCB2D (R620). -/
def execSraL (s : State) : Result := .next (s.rotateOperand .sra (.reg .l))

/-- `SRA (HL)`, 0xCB2E (R621). -/
def execSraAtHL (s : State) : Result := .next (s.rotateOperand .sra .atHL)

/-- `SRA A`, 0xCB2F (R620). -/
def execSraA (s : State) : Result := .next (s.rotateOperand .sra (.reg .a))

/-- `SWAP B`, 0xCB30 (R622). -/
def execSwapB (s : State) : Result := .next (s.rotateOperand .swap (.reg .b))

/-- `SWAP C`, 0xCB31 (R622). -/
def execSwapC (s : State) : Result := .next (s.rotateOperand .swap (.reg .c))

/-- `SWAP D`, 0xCB32 (R622). -/
def execSwapD (s : State) : Result := .next (s.rotateOperand .swap (.reg .d))

/-- `SWAP E`, 0xCB33 (R622). -/
def execSwapE (s : State) : Result := .next (s.rotateOperand .swap (.reg .e))

/-- `SWAP H`, 0xCB34 (R622). -/
def execSwapH (s : State) : Result := .next (s.rotateOperand .swap (.reg .h))

/-- `SWAP L`, 0xCB35 (R622). -/
def execSwapL (s : State) : Result := .next (s.rotateOperand .swap (.reg .l))

/-- `SWAP (HL)`, 0xCB36 (R623). -/
def execSwapAtHL (s : State) : Result := .next (s.rotateOperand .swap .atHL)

/-- `SWAP A`, 0xCB37 (R622). -/
def execSwapA (s : State) : Result := .next (s.rotateOperand .swap (.reg .a))

/-- `SRL B`, 0xCB38 (R624). -/
def execSrlB (s : State) : Result := .next (s.rotateOperand .srl (.reg .b))

/-- `SRL C`, 0xCB39 (R624). -/
def execSrlC (s : State) : Result := .next (s.rotateOperand .srl (.reg .c))

/-- `SRL D`, 0xCB3A (R624). -/
def execSrlD (s : State) : Result := .next (s.rotateOperand .srl (.reg .d))

/-- `SRL E`, 0xCB3B (R624). -/
def execSrlE (s : State) : Result := .next (s.rotateOperand .srl (.reg .e))

/-- `SRL H`, 0xCB3C (R624). -/
def execSrlH (s : State) : Result := .next (s.rotateOperand .srl (.reg .h))

/-- `SRL L`, 0xCB3D (R624). -/
def execSrlL (s : State) : Result := .next (s.rotateOperand .srl (.reg .l))

/-- `SRL (HL)`, 0xCB3E (R625). -/
def execSrlAtHL (s : State) : Result := .next (s.rotateOperand .srl .atHL)

/-- `SRL A`, 0xCB3F (R624). -/
def execSrlA (s : State) : Result := .next (s.rotateOperand .srl (.reg .a))

end Sys2Proof.Machine
end

