-- ==== Sys2Proof/Machine/System.lean ====
section
/-! DEFINITION. System instructions and the illegal bytes (45_system.md, R700 to R705). -/

namespace Sys2Proof.Machine

/-! ### The shared operations -/

/-- `NOP` (R700). -/
def State.noOperation (s : State) : State := s

/-- The entry into the low-power state (R701). -/
def State.lowPower (s : State) : State := { s with halted := true }

/-- `STOP` (R702): its operand byte has been read by the fetch and is ignored. -/
def State.stopWith (s : State) (_n : Byte) : State := s.lowPower

/-- `DI` and `EI` write `IME` at once (R703, R704, R906). -/
def State.setIme (s : State) (v : Bool) : State := { s with ime := v }

/-! ### The instructions, one meaning each, in the order of spec/opcode_table.json -/

/-- `NOP`, 0x00 (R700). -/
def execNop (s : State) : Result := .next (s.noOperation)

/-- `STOP`, 0x10 (R702). -/
def execStop (n8 : Byte) (s : State) : Result := .next (s.stopWith n8)

/-- `HALT`, 0x76 (R701). -/
def execHalt (s : State) : Result := .next (s.lowPower)

/-- The illegal byte 0xD3 (R705). -/
def execIllegalD3 (s : State) : Result := .next (s.signalUnimpl)

/-- The illegal byte 0xDB (R705). -/
def execIllegalDB (s : State) : Result := .next (s.signalUnimpl)

/-- The illegal byte 0xDD (R705). -/
def execIllegalDD (s : State) : Result := .next (s.signalUnimpl)

/-- The illegal byte 0xE3 (R705). -/
def execIllegalE3 (s : State) : Result := .next (s.signalUnimpl)

/-- The illegal byte 0xE4 (R705). -/
def execIllegalE4 (s : State) : Result := .next (s.signalUnimpl)

/-- The illegal byte 0xEB (R705). -/
def execIllegalEB (s : State) : Result := .next (s.signalUnimpl)

/-- The illegal byte 0xEC (R705). -/
def execIllegalEC (s : State) : Result := .next (s.signalUnimpl)

/-- The illegal byte 0xED (R705). -/
def execIllegalED (s : State) : Result := .next (s.signalUnimpl)

/-- `DI`, 0xF3 (R703). -/
def execDi (s : State) : Result := .next (s.setIme false)

/-- The illegal byte 0xF4 (R705). -/
def execIllegalF4 (s : State) : Result := .next (s.signalUnimpl)

/-- `EI`, 0xFB (R704). -/
def execEi (s : State) : Result := .next (s.setIme true)

/-- The illegal byte 0xFC (R705). -/
def execIllegalFC (s : State) : Result := .next (s.signalUnimpl)

/-- The illegal byte 0xFD (R705). -/
def execIllegalFD (s : State) : Result := .next (s.signalUnimpl)

end Sys2Proof.Machine
end

