-- ==== Sys2Proof/Machine/Wide.lean ====
section
/-! DEFINITION. 16-bit arithmetic (42_wide.md, R402 to R406). -/

namespace Sys2Proof.Machine

/-! ### The shared operations -/

/-- `INC rr`: no flag (R402). -/
def State.incrementPair (s : State) (p : Pair) : State := s.setPair p (s.pair p + 1)

/-- `DEC rr`: no flag (R403). -/
def State.decrementPair (s : State) (p : Pair) : State := s.setPair p (s.pair p - 1)

/-- `ADD HL,rr` (R404). -/
def State.addToHL (s : State) (p : Pair) : State :=
  let r := add16 s.hl (s.pair p) s.flagZ
  (s.setHL r.res).setFlags r.z r.n r.h r.c

/-- `ADD SP,e8` (R405). -/
def State.addToSP (s : State) (e : Byte) : State :=
  let r := addSPe s.sp e
  (s.setPair .sp r.res).setFlags r.z r.n r.h r.c

/-- `LD HL,SP+e8` (R406). -/
def State.loadHLFromSP (s : State) (e : Byte) : State :=
  let r := addSPe s.sp e
  (s.setHL r.res).setFlags r.z r.n r.h r.c

/-! ### The instructions, one meaning each, in the order of spec/opcode_table.json -/

/-- `INC BC`, 0x03 (R402). -/
def execIncBC (s : State) : Result := .next (s.incrementPair .bc)

/-- `ADD HL,BC`, 0x09 (R404). -/
def execAddHLBC (s : State) : Result := .next (s.addToHL .bc)

/-- `DEC BC`, 0x0B (R403). -/
def execDecBC (s : State) : Result := .next (s.decrementPair .bc)

/-- `INC DE`, 0x13 (R402). -/
def execIncDE (s : State) : Result := .next (s.incrementPair .de)

/-- `ADD HL,DE`, 0x19 (R404). -/
def execAddHLDE (s : State) : Result := .next (s.addToHL .de)

/-- `DEC DE`, 0x1B (R403). -/
def execDecDE (s : State) : Result := .next (s.decrementPair .de)

/-- `INC HL`, 0x23 (R402). -/
def execIncHL (s : State) : Result := .next (s.incrementPair .hl)

/-- `ADD HL,HL`, 0x29 (R404). -/
def execAddHLHL (s : State) : Result := .next (s.addToHL .hl)

/-- `DEC HL`, 0x2B (R403). -/
def execDecHL (s : State) : Result := .next (s.decrementPair .hl)

/-- `INC SP`, 0x33 (R402). -/
def execIncSP (s : State) : Result := .next (s.incrementPair .sp)

/-- `ADD HL,SP`, 0x39 (R404). -/
def execAddHLSP (s : State) : Result := .next (s.addToHL .sp)

/-- `DEC SP`, 0x3B (R403). -/
def execDecSP (s : State) : Result := .next (s.decrementPair .sp)

/-- `ADD SP,e8`, 0xE8 (R405). -/
def execAddSPE8 (e8 : Byte) (s : State) : Result := .next (s.addToSP e8)

/-- `LD HL,SP+e8`, 0xF8 (R406). -/
def execLdHLSPE8 (e8 : Byte) (s : State) : Result := .next (s.loadHLFromSP e8)

end Sys2Proof.Machine
end

