-- ==== Sys2Proof/Machine/Fetch.lean ====
section
/-! DEFINITION. The parts of the step around an instruction's meaning (30_encoding.md section 7): the
snapshot, the idle step of a halted engine, the fetch of the instruction's bytes, the instruction count and
the advance; and the placing of an instruction's bytes at `PC`, for the host. -/

namespace Sys2Proof.Machine

/-- The six 16-bit values of R147. -/
def State.snapshot (s : State) : Snapshot := ⟨s.af, s.bc, s.de, s.hl, s.sp, s.pc⟩

/-- The capture at the start of every step (R147). -/
def State.capture (s : State) : State := { s with snap := s.snapshot }

/-- A step taken while halted (R144): it clears `halted` when the wake condition holds and does nothing
else. -/
def State.idle (s : State) : State := if s.wake then { s with halted := false } else s

/-- The fetch of one instruction (R128, R140): the opcode at `PC`, then the bytes its format asks for at
`PC + 1` and `PC + 2`, each through `MemRead` and in that order. All of them are read before the instruction
executes (R98; log entry 11). -/
def State.fetch (s : State) : Instr × State :=
  let op := s.memRead s.pc
  match decodeFirst op.1 with
  | .whole i => (i, op.2)
  | .imm8 f =>
    let n := op.2.memRead (s.pc + 1)
    (f n.1, n.2)
  | .imm16 f =>
    let n := op.2.memRead16 (s.pc + 1)
    (f n.1, n.2)
  | .extended =>
    let cbop := op.2.memRead (s.pc + 1)
    (decodeExtended cbop.1, cbop.2)

/-- The instruction count (R148). -/
def State.count (s : State) : State := { s with icount := s.icount + 1 }

/-- The advance (R141): a redirected `PC` stays and the flag is cleared, else `PC` moves past the
instruction. -/
def State.advance (s : State) (len : Nat) : State :=
  if s.redirect then { s with redirect := false } else { s with pc := s.pc + BitVec.ofNat 16 len }

/-- What a step does after the meaning of an instruction (R143): count and advance. -/
def State.finish (s : State) (i : Instr) : State := s.count.advance (instrLength i)

/-- Whether a byte stored at the address is what a fetch there reads: not 0xFF44, whose reads give 0x90
(R79), and not an unmapped address (R81). -/
def retains (a : Word) : Bool := !(unmapped a) && !(region a == .ly)

/-- The state made ready to fetch at `PC`: not halted, and with `PC` moved to the entry point 0x0100 (R902)
where one of the three bytes from `PC` on would not keep what is stored there. Log entry 7. -/
def State.readyToFetch (s : State) : State :=
  let s1 : State := { s with halted := false }
  if retains s.pc && retains (s.pc + 1) && retains (s.pc + 2) then s1 else { s1 with pc := 0x0100 }

/-- Stores three bytes at `PC`, `PC + 1` and `PC + 2`, as the host's loading of a program does: no event is
recorded. -/
def State.placeBytes (s : State) (bytes : List Byte) : State :=
  ((s.store s.pc (bytes.getD 0 0)).store (s.pc + 1) (bytes.getD 1 0)).store (s.pc + 2) (bytes.getD 2 0)

end Sys2Proof.Machine
end

