-- ==== Sys2Proof/Machine/Step.lean ====
section
/-! DEFINITION. One step of the engine (R143), and the host's placing of one instruction where the next step
fetches. -/

namespace Sys2Proof.Machine

/-- `Step()` (R143): capture; then, while halted, the idle step (R144), else fetch, execute, count and
advance. -/
def step (s : State) : Host.Outcome State Fault Refusal :=
  let s0 := s.capture
  if s0.halted then .next s0.idle
  else
    let fetched := s0.fetch
    match exec fetched.1 fetched.2 with
    | .next t => .next (t.finish fetched.1)
    | .fault r => .fault r
    | .refused r => .refused r

/-- The state with the instruction of an opcode-table row (see `tableBytes`) stored where the next step
fetches. -/
def State.withFetchWord (s : State) (nbits w : Nat) : State :=
  s.readyToFetch.placeBytes (tableBytes nbits w)

end Sys2Proof.Machine
end

