-- ==== Sys2Proof/WellFormed.lean ====
section
/-! DEFINITION. Well-formedness of what comes from outside. An `Instr` has no ill-formed term: its register,
condition, bit and restart numbers are part of its constructor and its immediates are bit vectors of the
encoding's own widths (R120), so nothing about an instruction is left to check. What can be ill-formed is the
ROM image the host constructs the block with (R816). -/

namespace Sys2Proof

/-- R816: a missing or empty image makes `Construct` fail; any other image is accepted (padded or cut to
32 KiB). -/
def Image.wellFormed (image : List Byte) : Bool := !image.isEmpty

end Sys2Proof
end

