-- ==== Sys2Proof/Machine/HostInterface.lean ====
section
/-! DEFINITION. The host's commands (R815, R816, R900, R901): everything the outside world can do to the
block, each between two steps. -/

namespace Sys2Proof.Machine

/-! ### Construction and reset -/

/-- The cells of a ROM image placed from address `k` on, in canonical form: a byte 0x00 needs no entry. -/
def imageCells (k : Nat) (image : List Byte) : Memory :=
  match image with
  | [] => []
  | v :: rest => if v = 0 then imageCells (k + 1) rest else (k, v) :: imageCells (k + 1) rest

/-- The size of the ROM region in bytes (R5). -/
def romSize : Nat := 0x8000

/-- `Construct(image)` (R900): the ROM holds the image's first 32 KiB, padded with 0x00, and every other
piece of state has its value at construction (R49); an empty image fails (R816). -/
def construct (image : List Byte) : Option State :=
  if Image.wellFormed image then some { State.reset with mem := imageCells 0 (image.take romSize) } else none

/-- The registers of a boot profile (R47, R48). -/
def State.loadProfile (s : State) (p : Profile) : State :=
  match p with
  | .dmg =>
    { s with a := 0x01, f := 0xB0, b := 0x00, c := 0x13, d := 0x00, e := 0xD8, h := 0x01, l := 0x4D,
             sp := 0xFFFE, pc := 0x0100 }
  | .alt =>
    { s with a := 0x11, f := 0x80, b := 0x00, c := 0x00, d := 0xFF, e := 0x56, h := 0x00, l := 0x0D,
             sp := 0xFFFE, pc := 0x0100 }

/-- The zero fill of reset: every array but ROM (R901). -/
def Memory.keepRom (m : Memory) : Memory := m.filter (fun cell => cell.1 < romSize)

/-- `Reset(profile)` (R901): ROM, `IE`, `IF`, the two signals, the instruction count, the snapshot and the
history stay. -/
def State.resetCommand (s : State) (p : Profile) : State :=
  { s.loadProfile p with ime := false, halted := false, redirect := false, mem := s.mem.keepRom }

/-! ### Signals, snapshot and diagnostic accesses -/

/-- `ClearInvalid()` (R815). -/
def State.clearInvalid (s : State) : State := { s with invalid := false }

/-- `ClearUnimpl()` (R815). -/
def State.clearUnimpl (s : State) : State := { s with unimpl := false }

/-- `Rewind()` (R815): the six 16-bit values of the snapshot, `AF` through the masking write of R32, and
nothing else. -/
def State.rewind (s : State) : State :=
  { ((((s.setAF s.snap.af).setBC s.snap.bc).setDE s.snap.de).setHL s.snap.hl) with
      sp := s.snap.sp, pc := s.snap.pc }

/-- `PeekByte(a)` (R100): a read with no event. -/
def State.peekByte (s : State) (a : Word) : Byte × State := s.load a

/-- `PokeByte(a, v)` (R815): a write with no event. -/
def State.pokeByte (s : State) (a : Word) (v : Byte) : State := s.store a v

/-- `History()` (R815): the events in the order in which they happened. -/
def State.accessHistory (s : State) : List AccessEvent := s.history.reverse

/-! ### The commands as one alphabet -/

/-- The 8-bit registers the host can read (R815). -/
inductive ByteName where
  | a | b | c | d | e | f | h | l
  deriving DecidableEq, Repr

/-- The 16-bit registers the host can read (R815). -/
inductive WordName where
  | af | bc | de | hl | sp | pc
  deriving DecidableEq, Repr

/-- The flags, state bits and signals the host can read (R815). -/
inductive BitName where
  | flagZ | flagN | flagH | flagC | ime | halted | invalid | unimpl
  deriving DecidableEq, Repr

/-- The commands of R815, but for `Construct`, after which there is a state to command. -/
inductive Command where
  | step
  | reset (p : Profile)
  | byteRegister (n : ByteName)
  | wordRegister (n : WordName)
  | bit (n : BitName)
  | instructionCount
  | clearInvalid
  | clearUnimpl
  | rewind
  | peekByte (a : Word)
  | pokeByte (a : Word) (v : Byte)
  | history
  deriving DecidableEq, Repr

/-- What the host gets back (R815). -/
inductive Reply where
  | nothing
  | byte (v : Byte)
  | word (v : Word)
  | bit (v : Bool)
  | count (n : Nat)
  | events (evs : List AccessEvent)
  deriving DecidableEq, Repr

/-- The 8-bit register accessors. -/
def State.byteRegister (s : State) (n : ByteName) : Byte :=
  match n with
  | .a => s.a
  | .b => s.b
  | .c => s.c
  | .d => s.d
  | .e => s.e
  | .f => s.readF
  | .h => s.h
  | .l => s.l

/-- The 16-bit register accessors. -/
def State.wordRegister (s : State) (n : WordName) : Word :=
  match n with
  | .af => s.af
  | .bc => s.bc
  | .de => s.de
  | .hl => s.hl
  | .sp => s.sp
  | .pc => s.pc

/-- The accessors of flags, state bits and signals. -/
def State.bitRegister (s : State) (n : BitName) : Bool :=
  match n with
  | .flagZ => s.flagZ
  | .flagN => s.flagN
  | .flagH => s.flagH
  | .flagC => s.flagC
  | .ime => s.ime
  | .halted => s.halted
  | .invalid => s.invalid
  | .unimpl => s.unimpl

/-- One command of the host (R815): the reply and the state after. -/
def command (cmd : Command) (s : State) : Host.Outcome (Reply × State) Fault Refusal :=
  match cmd with
  | .step =>
    match step s with
    | .next t => .next (.nothing, t)
    | .fault r => .fault r
    | .refused r => .refused r
  | .reset p => .next (.nothing, s.resetCommand p)
  | .byteRegister n => .next (.byte (s.byteRegister n), s)
  | .wordRegister n => .next (.word (s.wordRegister n), s)
  | .bit n => .next (.bit (s.bitRegister n), s)
  | .instructionCount => .next (.count s.icount, s)
  | .clearInvalid => .next (.nothing, s.clearInvalid)
  | .clearUnimpl => .next (.nothing, s.clearUnimpl)
  | .rewind => .next (.nothing, s.rewind)
  | .peekByte a => .next (.byte (s.peekByte a).1, (s.peekByte a).2)
  | .pokeByte a v => .next (.nothing, s.pokeByte a v)
  | .history => .next (.events s.accessHistory, s)

/-- A sequence of commands (R815), for its effect on the block, whatever the host sends. The run of a launch,
with its end, is `Launch.run`. -/
def commands (cmds : List Command) (s : State) : Host.Outcome State Fault Refusal :=
  match cmds with
  | [] => .next s
  | cmd :: rest =>
    match command cmd s with
    | .next r => commands rest r.2
    | .fault r => .fault r
    | .refused r => .refused r

end Sys2Proof.Machine
end

