-- ==== Sys2Proof/Machine/Launch.lean ====
section
/-! DEFINITION. A launch and its run (R908): construction, optionally a reset, then steps with the host's pokes
between them, until the first step boundary at which the launch's end condition holds. -/

namespace Sys2Proof.Machine

/-! ### The launch -/

/-- The end condition `P_END` of a launch (R908). -/
inductive EndCondition where
  /-- `AtAddress(e)` -/
  | atAddress (e : Word)
  /-- `OnHalt` -/
  | onHalt
  deriving DecidableEq, Repr

/-- The parameters of a launch (R908): `P_ROM_IMAGE`, the profile of its reset where it has one, and `P_END`. -/
structure Launch where
  image : List Byte
  profile : Option Profile
  endCondition : EndCondition
  deriving DecidableEq, Repr

/-- The state before the first step of a launch: `Construct(image)`, optionally followed by `Reset(profile)`;
none where the construction fails (R816). -/
def Launch.start (l : Launch) : Option State :=
  match construct l.image, l.profile with
  | none, _ => none
  | some s, none => some s
  | some s, some p => some (s.resetCommand p)

/-! ### The end of a run -/

/-- Whether the end condition holds in a state between two steps (R908). -/
def State.ends (s : State) (p : EndCondition) : Bool :=
  match p with
  | .atAddress e => s.pc == e && !s.halted
  | .onHalt => s.halted && !s.wake

/-- `invalid = 1` or `unimpl = 1`: a run that ends so ends faulted (R801, R802, R908). -/
def State.faulted (s : State) : Bool := s.invalid || s.unimpl

/-- A successful end (R908): the end condition holds and the run is not faulted. -/
def State.endsWell (s : State) (p : EndCondition) : Bool := s.ends p && !s.faulted

/-- `NoInterruptDue` in a state between two steps (R805): `IME = 0` or `(IE & IF & 0x1F) = 0`. -/
def State.noInterruptDue (s : State) : Bool := !s.ime || !s.wake

/-- What has become of a run. -/
inductive RunResult where
  /-- It has ended in this state, and neither signal is set. -/
  | success (s : State)
  /-- It has ended in this state, which is faulted: no successful end. -/
  | faulted (s : State)
  /-- The host's budget of steps is used up and the end condition has not been met: it is not over. -/
  | notOver (s : State)
  /-- At a step boundary it reached this state, in which an interrupt is due: the chip would dispatch it and
  the block does not, so the model says nothing of how the run goes on or ends (R805; 93_implementation_defined.md
  U11: refuse). A step taken there is still what R143 says. -/
  | interruptDue (s : State)
  deriving DecidableEq, Repr

/-- The end of a run that ends in this state. -/
def State.endAs (s : State) : RunResult := if s.faulted then .faulted s else .success s

/-! ### The run -/

/-- The pokes the host makes between two steps (R815), in their order. -/
abbrev Pokes := List (Word × Byte)

/-- The effect of a sequence of pokes. -/
def State.pokeAll (s : State) (pokes : Pokes) : State :=
  match pokes with
  | [] => s
  | poke :: rest => (s.pokeByte poke.1 poke.2).pokeAll rest

/-- The host's commands after the start of a launch (R908): one `Step` for each entry, the pokes of the entry
before it. Its length is the host's budget of steps. -/
abbrev Schedule := List Pokes

/-- One turn of a schedule: the pokes, then the step. -/
def turn (pokes : Pokes) (s : State) : Host.Outcome State Fault Refusal := step (s.pokeAll pokes)

/-- Every turn of a schedule: the state at the step boundary after it. It is no run: it looks neither at an end
condition nor at the premise on interrupts, and claims about runs speak of `runUntil`. -/
def turns (schedule : Schedule) (s : State) : Host.Outcome State Fault Refusal :=
  match schedule with
  | [] => .next s
  | pokes :: rest =>
    match turn pokes s with
    | .next t => turns rest t
    | .fault r => .fault r
    | .refused r => .refused r

/-- What a run has come to in a state at a step boundary: an interrupt is due, or the end condition holds; none
where it goes on. -/
def State.stops (s : State) (p : EndCondition) : Option RunResult :=
  if s.noInterruptDue then (if s.ends p then some s.endAs else none) else some (.interruptDue s)

/-- The run from a state under an end condition (R908): it ends at the first step boundary at which the
condition holds, and is not over where the schedule ends before. The condition is tested on what the last step
(or the start) left, before the pokes of the boundary (log entry 24). A run that breaks the premise
`NoInterruptDue` (R805), before or after the pokes of a boundary it reaches, answers `interruptDue` and nothing
else (log entry 25). -/
def runUntil (p : EndCondition) (schedule : Schedule) (s : State) : Host.Outcome RunResult Fault Refusal :=
  match schedule with
  | [] => .next ((s.stops p).getD (.notOver s))
  | pokes :: rest =>
    match s.stops p with
    | some r => .next r
    | none =>
      if (s.pokeAll pokes).noInterruptDue then
        match turn pokes s with
        | .next t => runUntil p rest t
        | .fault r => .fault r
        | .refused r => .refused r
      else .next (.interruptDue (s.pokeAll pokes))

/-- The run of a launch (R908); none where the construction fails (R816). -/
def Launch.run (l : Launch) (schedule : Schedule) : Option (Host.Outcome RunResult Fault Refusal) :=
  l.start.map (runUntil l.endCondition schedule)

end Sys2Proof.Machine
end

