-- ==== Sys2Proof/Safety.lean ====
section
/-! DEFINITION. The terms in which claims speak: the premise on interrupts of a run (R805), the invariant of the
block, and what a frame says is unchanged. The end of a run and faulted ends (R908) are in Machine/Launch.lean. -/

namespace Sys2Proof.Machine

/-! ### Interrupts -/

/-- `NoInterruptDue` of a run (R805): at every step boundary the run reaches, its end included, no interrupt is
due, neither in what the last step left nor after the host's pokes of the boundary, where the next step starts
(log entry 25). The premise of every claim about a run: where it fails the chip would dispatch an interrupt and
this block does not, and `runUntil` answers `interruptDue`. -/
def NoInterruptDue (p : EndCondition) (schedule : Schedule) (s : State) : Prop :=
  ∀ (n : Nat) (t : State), n ≤ schedule.length → turns (schedule.take n) s = .next t →
    (∀ (m : Nat) (u : State), m < n → turns (schedule.take m) s = .next u → u.ends p = false) →
    t.noInterruptDue = true ∧
      ∀ pokes, schedule[n]? = some pokes → t.ends p = false → (t.pokeAll pokes).noInterruptDue = true

/-! ### The invariant -/

/-- Whether a memory entry may stand under this address: it is the address of a cell of one of the six
arrays (R45), the byte registers `IE` and `IF` and the unmapped addresses being none. -/
def arrayCell (k : Nat) : Bool :=
  decide (k < 0x10000) &&
    (match region (BitVec.ofNat 16 k) with
     | .rom | .wram0 | .wram1 | .hram | .vram | .io | .ly => true
     | .ie | .iflag | .unmapped => false)

/-- What holds in every reachable state at a step boundary: the unused flag bits are 0 (R34), `redirect` is 0
(R38), the memory has its canonical form and lists cells of the arrays only (R45), and the snapshot's `AF`
has the unused bits 0 (R32, R44). -/
abbrev State.Inv (s : State) : Prop :=
  s.f &&& 0x0F = 0 ∧ s.redirect = false ∧ s.mem.wf ∧ (∀ cell ∈ s.mem, arrayCell cell.1 = true) ∧
    s.snap.af &&& 0x000F = 0

/-! ### Frames -/

/-- The pieces of state a frame speaks of, other than memory: registers, the four flags, control bits,
signals and diagnostics. -/
inductive Item where
  | reg (r : Reg8)
  | flagZ | flagN | flagH | flagC
  | sp | pc | redirect | ime | halted | invalid | unimpl | icount | snap | history | draws
  deriving DecidableEq, Repr

/-- The item has the same value in both states. -/
def Item.same (x : Item) (s t : State) : Prop :=
  match x with
  | .reg r => t.reg8 r = s.reg8 r
  | .flagZ => t.flagZ = s.flagZ
  | .flagN => t.flagN = s.flagN
  | .flagH => t.flagH = s.flagH
  | .flagC => t.flagC = s.flagC
  | .sp => t.sp = s.sp
  | .pc => t.pc = s.pc
  | .redirect => t.redirect = s.redirect
  | .ime => t.ime = s.ime
  | .halted => t.halted = s.halted
  | .invalid => t.invalid = s.invalid
  | .unimpl => t.unimpl = s.unimpl
  | .icount => t.icount = s.icount
  | .snap => t.snap = s.snap
  | .history => t.history = s.history
  | .draws => t.draws = s.draws

/-- The registers of a pair of the table `rp`. -/
def pairItems (p : Pair) : List Item :=
  match p with
  | .bc => [.reg .b, .reg .c]
  | .de => [.reg .d, .reg .e]
  | .hl => [.reg .h, .reg .l]
  | .sp => [.sp]

/-- The four flags. -/
def flagItems : List Item := [.flagZ, .flagN, .flagH, .flagC]

/-- What a memory access may change besides memory: the signal, the history and the draws taken (R92). -/
def accessItems : List Item := [.invalid, .history, .draws]

/-- Everything but memory and the items listed is unchanged from `s` to `t`. -/
def SameExcept (written : List Item) (s t : State) : Prop := ∀ x : Item, x ∉ written → x.same s t

/-- Every byte of the address space, `IE` and `IF` among them, reads the same in both states. -/
def SameMemory (s t : State) : Prop := ∀ a : Word, t.byteAt a = s.byteAt a

/-- Every byte outside the listed addresses reads the same in both states. -/
def SameMemoryExcept (stored : List Word) (s t : State) : Prop :=
  ∀ a : Word, a ∉ stored → t.byteAt a = s.byteAt a

/-! ### Accesses -/

/-- The address of an event. -/
def AccessEvent.addr (ev : AccessEvent) : Word :=
  match ev with
  | .read a => a
  | .write a _ => a

/-- From `s` to `t` exactly these accesses were made, in this order (R85), and `invalid` was set if and only
if one of them was to an unmapped address (R82). -/
def Accesses (evs : List AccessEvent) (s t : State) : Prop :=
  t.history = evs.reverse ++ s.history ∧
    t.invalid = (s.invalid || evs.any (fun ev => unmapped ev.addr))

/-- `v` is what a read of the address returns in `s`; any byte where the address is unmapped, the read being
a draw (R81). -/
def ReadsAs (s : State) (a : Word) (v : Byte) : Prop := ∀ x : Byte, s.byteAt a = some x → v = x

/-- From `s` to `t` the byte `v` was stored at the address: it is read back there, where the address keeps
what is stored (R89) and the memory of `s` has its canonical form. -/
def Stored (s t : State) (a : Word) (v : Byte) : Prop :=
  s.mem.wf → retains a = true → t.byteAt a = some v

end Sys2Proof.Machine
end

