-- ==== Sys2Proof/Certificates/Slice0/Obligations.lean ====
section
/-! DEFINITION. The statements for the provers, from the numbered rules of spec/. A statement about an
instruction names it through the families of Decode.lean (`mkLd`, `mkAlu`, …; each family's table lists its
constructors), says what the spec's encoding of it is, that `exec` answers a next state from every state, what
that state holds, and what it leaves unchanged. The encodings and the flag results of most instructions are
marked `[from general knowledge, not in source]` in the spec (93_implementation_defined.md G1 to G9). -/

open Sys2Proof Sys2Proof.Machine

namespace Sys2Proof.Claims

/-! ### The terms of the statements -/

/-- The fetch of an instruction whose first byte is `op` makes exactly `n` reads, at `PC`, `PC + 1`, … in
this order, so that it sets `invalid` exactly when one of these bytes is unmapped. -/
def FetchReads (op : Byte) (n : Nat) : Prop :=
  ∀ s : State, s.byteAt s.pc = some op →
    Accesses ((List.range n).map fun k => .read (s.pc + BitVec.ofNat 16 k)) s s.fetch.2

/-- One byte was loaded from the address into the register, and nothing else changed but what a read may
change. -/
def LoadedFrom (dst : Reg8) (a : Word) (s t : State) : Prop :=
  ReadsAs s a (t.reg8 dst) ∧ Accesses [.read a] s t ∧ SameExcept (.reg dst :: accessItems) s t ∧
    SameMemory s t

/-- One byte was stored to the address, and nothing else changed but what a write may change. -/
def StoredTo (a : Word) (v : Byte) (s t : State) : Prop :=
  Stored s t a v ∧ Accesses [.write a v] s t ∧ SameExcept [.invalid, .history] s t ∧
    SameMemoryExcept [a] s t

/-- The four flags of `t`. -/
def FlagsAre (t : State) (z n h c : Bool) : Prop :=
  t.flagZ = z ∧ t.flagN = n ∧ t.flagH = h ∧ t.flagC = c

/-- `A` and the flags after an addition of `v` and a carry of 0 or 1 to `A` (R200). -/
def Added (s t : State) (v : Byte) (cin : Nat) : Prop :=
  t.a.toNat = (s.a.toNat + v.toNat + cin) % 256 ∧
    FlagsAre t (decide (t.a.toNat = 0)) false (decide (15 < s.a.toNat % 16 + v.toNat % 16 + cin))
      (decide (255 < s.a.toNat + v.toNat + cin))

/-- The flags of a subtraction of `v` and a borrow of 0 or 1 from `A`, whose result is `res` (R201). -/
def Subtracted (s t : State) (v : Byte) (cin res : Nat) : Prop :=
  res = (s.a.toNat + 512 - v.toNat - cin) % 256 ∧
    FlagsAre t (decide (res = 0)) true (decide (s.a.toNat % 16 < v.toNat % 16 + cin))
      (decide (s.a.toNat < v.toNat + cin))

/-- `A` and the flags after a logical operation (R202): `res` gives each bit of the result. -/
def Combined (t : State) (res : Nat → Bool) (half : Bool) : Prop :=
  (∀ k, k < 8 → t.a.getLsbD k = res k) ∧ FlagsAre t (decide (t.a.toNat = 0)) false half false

/-- An accumulator instruction in its three forms: on a register, on an immediate, on the byte at `HL`.
`result s t v` says what the operation on the source value `v` leaves in `t`; `written` lists what it may
write. -/
def AccumulatorForms (op : AluOp) (written : List Item) (result : State → State → Byte → Prop) : Prop :=
  ∀ s : State,
    (∀ r : Reg8, ∃ t, exec (mkAlu op (.reg r)) s = .next t ∧ result s t (s.reg8 r) ∧
      SameExcept written s t ∧ SameMemory s t) ∧
    (∀ n : Byte, ∃ t, exec (mkAluImm op n) s = .next t ∧ result s t n ∧
      SameExcept written s t ∧ SameMemory s t) ∧
    (∃ t v, exec (mkAlu op .atHL) s = .next t ∧ ReadsAs s s.hl v ∧ result s t v ∧
      Accesses [.read s.hl] s t ∧ SameExcept (written ++ accessItems) s t ∧ SameMemory s t)

/-- The encodings of an accumulator operation with index `y` in the table `alu` (R133, R134). -/
def AccumulatorEncoding (op : AluOp) (y : Nat) : Prop :=
  (∀ z, z < 8 → encode (mkAlu op (tableR8 z)) = [BitVec.ofNat 8 (0x80 + 8 * y + z)]) ∧
    (∀ n, encode (mkAluImm op n) = [BitVec.ofNat 8 (0xC6 + 8 * y), n]) ∧
    FetchReads (BitVec.ofNat 8 (0xC6 + 8 * y)) 2

/-- A read-modify-write instruction on a register or on the byte at `HL`: `i x` is the instruction on the
operand, `result s t v w` relates the value read to the value written and to the flags. The memory form reads
once, then writes once, at the same address (R84). -/
def ModifyForms (i : Operand8 → Instr) (written : List Item)
    (result : State → State → Byte → Byte → Prop) : Prop :=
  ∀ s : State,
    (∀ r : Reg8, ∃ t, exec (i (.reg r)) s = .next t ∧ result s t (s.reg8 r) (t.reg8 r) ∧
      SameExcept (.reg r :: written) s t ∧ SameMemory s t) ∧
    (∃ t v w, exec (i .atHL) s = .next t ∧ ReadsAs s s.hl v ∧ result s t v w ∧ Stored s t s.hl w ∧
      Accesses [.read s.hl, .write s.hl w] s t ∧ SameExcept (written ++ accessItems) s t ∧
      SameMemoryExcept [s.hl] s t)

/-- Bit `k` of the result of a rotate or shift of `v` with the carry `cin` (R600). -/
def rotatedBit (op : RotOp) (v : Byte) (cin : Bool) (k : Nat) : Bool :=
  match op with
  | .rlc => v.getLsbD ((k + 7) % 8)
  | .rrc => v.getLsbD ((k + 1) % 8)
  | .rl => if k = 0 then cin else v.getLsbD (k - 1)
  | .rr => if k = 7 then cin else v.getLsbD (k + 1)
  | .sla => if k = 0 then false else v.getLsbD (k - 1)
  | .sra => if k = 7 then v.getLsbD 7 else v.getLsbD (k + 1)
  | .swap => v.getLsbD ((k + 4) % 8)
  | .srl => if k = 7 then false else v.getLsbD (k + 1)

/-- The bit a rotate or shift moves out (R600). -/
def rotatedOut (op : RotOp) (v : Byte) : Bool :=
  match op with
  | .rlc | .rl | .sla => v.getLsbD 7
  | .rrc | .rr | .sra | .srl => v.getLsbD 0
  | .swap => false

/-- `v` was pushed (R88): `SP` is two less, the high byte was written first, at the higher address, and
nothing else changed but the items listed. -/
def Pushed (v : Word) (written : List Item) (s t : State) : Prop :=
  t.sp = s.sp - 2 ∧ Stored s t (s.sp - 1) (hiByte v) ∧ Stored s t (s.sp - 2) (loByte v) ∧
    Accesses [.write (s.sp - 1) (hiByte v), .write (s.sp - 2) (loByte v)] s t ∧
    SameExcept (.sp :: .invalid :: .history :: written) s t ∧ SameMemoryExcept [s.sp - 1, s.sp - 2] s t

/-- The bytes `lo` and `hi` were popped (R89): low byte first, `SP` is two more, and nothing else changed but
the items listed. -/
def Popped (lo hi : Byte) (written : List Item) (s t : State) : Prop :=
  ReadsAs s s.sp lo ∧ ReadsAs s (s.sp + 1) hi ∧ t.sp = s.sp + 2 ∧
    Accesses [.read s.sp, .read (s.sp + 1)] s t ∧ SameExcept (.sp :: accessItems ++ written) s t ∧
    SameMemory s t

/-- `pc <- target` was executed (R142), and nothing else changed. -/
def Jumped (target : Nat) (s t : State) : Prop :=
  t.pc.toNat = target ∧ t.redirect = true ∧ SameExcept [.pc, .redirect] s t ∧ SameMemory s t

/-- The unused bits of `F` (R34): they read as 0 in `s`; the two writes to `F` as a byte store it with its low
nibble 0; every other instruction stores the named flags only; so nothing leads from a state in which they are
0 to one in which they are not, and they are 0 at reset. -/
def UnusedFlagBitsAreZero (s : State) : Prop :=
  s.readF &&& 0x0F = 0 ∧
    (∃ t v, exec .popAF s = .next t ∧ ReadsAs s s.sp v ∧ t.f = v &&& 0xF0) ∧
    (∀ p : Profile, (s.resetCommand p).f &&& 0x0F = 0) ∧
    (∀ (i : Instr) (t : State), exec i s = .next t → t.f = s.f ∨ t.f &&& 0x0F = 0) ∧
    (∀ (cmd : Command) (r : Reply × State), s.f &&& 0x0F = 0 → command cmd s = .next r →
      r.2.f &&& 0x0F = 0) ∧
    State.reset.f &&& 0x0F = 0

/-- `signed8(v)` (R7). -/
def signed8 (v : Byte) : Int := if v.toNat < 0x80 then v.toNat else (v.toNat : Int) - 256

/-- `PC + 2 + e`, the target of a relative jump, modulo 65536 (R503). -/
def relative (s : State) (e : Byte) : Nat := (((s.pc.toNat : Int) + 2 + signed8 e) % 65536).toNat

/-- Two decimal digits in one byte. -/
def bcd (n : Nat) : Nat := n / 10 % 10 * 16 + n % 10

/-- The state with everything that no instruction can read set aside (R50, R85): `IME`, the two signals, the
instruction count, the snapshot and the access history. -/
def programView (s : State) : State :=
  { s with ime := false, invalid := false, unimpl := false, icount := 0, snap := ⟨0, 0, 0, 0, 0, 0⟩,
           history := [] }

end Sys2Proof.Claims

open Sys2Proof.Claims

/-! ### Encoding and decoding (30_encoding.md) -/

/-- Decoding the bytes of an instruction gives it back, with every operand, and leaves the bytes after it
untouched (R120, R138). -/
def Obligations.DecodeOfEncodeIsIdentity : Prop :=
  ∀ (i : Instr) (rest : List Byte), decode (encode i ++ rest) = .ok (i, rest)

/-- Whatever decodes was the encoding of what it decodes to: no byte has two readings and none is dropped
(R138). -/
def Obligations.EncodeOfDecodeIsIdentity : Prop :=
  ∀ (bytes : List Byte) (i : Instr) (rest : List Byte),
    decode bytes = .ok (i, rest) → encode i ++ rest = bytes

/-- `Len(op)` (R130): every first byte starts an instruction of the length listed there, and decoding uses
exactly that many bytes. That a list of fewer bytes is refused as `truncated` is the model's own choice (log
entry 22, DESIGN CHOICE): the spec decodes from memory, which has a byte at every address. -/
def Obligations.FirstByteFixesLength : Prop :=
  ∀ (op : Byte) (tail : List Byte),
    let len :=
      if op ∈ ([0x01, 0x11, 0x21, 0x31, 0x08, 0xC2, 0xCA, 0xD2, 0xDA, 0xC3, 0xC4, 0xCC, 0xD4, 0xDC, 0xCD, 0xEA,
        0xFA] : List Byte) then 3
      else if op ∈ ([0x06, 0x0E, 0x16, 0x1E, 0x26, 0x2E, 0x36, 0x3E, 0x10, 0x18, 0x20, 0x28, 0x30, 0x38, 0xC6,
        0xCE, 0xD6, 0xDE, 0xE6, 0xEE, 0xF6, 0xFE, 0xE0, 0xF0, 0xE8, 0xF8, 0xCB] : List Byte) then 2
      else 1
    opLength op = len ∧
    (len ≤ tail.length + 1 →
      ∃ i, decode (op :: tail) = .ok (i, tail.drop (len - 1)) ∧ opcodeOf i = op ∧ instrLength i = len) ∧
    (tail.length + 1 < len → decode (op :: tail) = .error (.truncated op))

/-- Words written out from the encodings of the spec decode to their instructions: one or two of each
family. -/
def Obligations.SampleWordsDecode : Prop :=
  decode [0b00111110, 0x42] = .ok (.ldAN8 0x42, []) ∧
  decode [0b01111000] = .ok (.ldAB, []) ∧
  decode [0b01110110] = .ok (.halt, []) ∧
  decode [0b00100001, 0x34, 0x12] = .ok (.ldHLN16 0x1234, []) ∧
  decode [0b10001110] = .ok (.adcAAtHL, []) ∧
  decode [0b11100110, 0x38] = .ok (.andN8 0x38, []) ∧
  decode [0b00111001] = .ok (.addHLSP, []) ∧
  decode [0b11000011, 0x50, 0x01] = .ok (.jpA16 0x0150, []) ∧
  decode [0b00111000, 0x10] = .ok (.jrCE8 0x10, []) ∧
  decode [0b11110101] = .ok (.pushAF, []) ∧
  decode [0b11001011, 0b00111101] = .ok (.srlL, []) ∧
  decode [0b11001011, 0b01111100] = .ok (.bit7H, []) ∧
  decode [0b11011101] = .ok (.illegalDD, [])

/-! ### Registers, flags, reset (10_state.md) -/

/-- The pairs are their two halves, high byte first, and a write to a pair writes its two registers and
nothing else, memory included; a write to `AF` masks the low nibble (R31, R32). The four flags stand at bits
7, 6, 5 and 4 of `F` (R33) and the other four bits read as 0 (R34). -/
def Obligations.PairsAndFlagsAreTheirParts : Prop :=
  ∀ (s : State) (v : Word),
    s.af.toNat = s.a.toNat * 256 + s.readF.toNat ∧ s.bc.toNat = s.b.toNat * 256 + s.c.toNat ∧
    s.de.toNat = s.d.toNat * 256 + s.e.toNat ∧ s.hl.toNat = s.h.toNat * 256 + s.l.toNat ∧
    (s.setBC v).bc = v ∧ (s.setBC v).b.toNat = v.toNat / 256 ∧ (s.setBC v).c.toNat = v.toNat % 256 ∧
    (s.setDE v).de = v ∧ (s.setDE v).d.toNat = v.toNat / 256 ∧ (s.setDE v).e.toNat = v.toNat % 256 ∧
    (s.setHL v).hl = v ∧ (s.setHL v).h.toNat = v.toNat / 256 ∧ (s.setHL v).l.toNat = v.toNat % 256 ∧
    (s.setAF v).af = v &&& 0xFFF0 ∧ (s.setAF v).a.toNat = v.toNat / 256 ∧
    (s.setAF v).f.toNat = v.toNat % 256 / 16 * 16 ∧
    SameExcept [.reg .b, .reg .c] s (s.setBC v) ∧ SameMemory s (s.setBC v) ∧
    SameExcept [.reg .d, .reg .e] s (s.setDE v) ∧ SameMemory s (s.setDE v) ∧
    SameExcept [.reg .h, .reg .l] s (s.setHL v) ∧ SameMemory s (s.setHL v) ∧
    SameExcept (.reg .a :: flagItems) s (s.setAF v) ∧ SameMemory s (s.setAF v) ∧
    (∀ x : Byte, (s.setReg8 .b x).bc = wordOf x s.c ∧ (s.setReg8 .c x).bc = wordOf s.b x) ∧
    s.readF.toNat =
      128 * s.flagZ.toNat + 64 * s.flagN.toNat + 32 * s.flagH.toNat + 16 * s.flagC.toNat ∧
    UnusedFlagBitsAreZero s

/-- The registers of boot profile `DMG` after reset (R47). -/
def Obligations.ResetLeavesTheDmgRegisters : Prop :=
  let s := State.reset
  s.a = 0x01 ∧ s.f = 0xB0 ∧ FlagsAre s true false true true ∧ s.b = 0x00 ∧ s.c = 0x13 ∧ s.d = 0x00 ∧
    s.e = 0xD8 ∧ s.h = 0x01 ∧ s.l = 0x4D ∧ s.sp = 0xFFFE ∧ s.pc = 0x0100

/-! ### The bus (20_memory.md) -/

/-- The address map: the priority order of R71 gives every address to exactly one target, in the ranges
below. -/
def Obligations.AddressMapIsTheTable : Prop :=
  ∀ a : Word,
    (region a = .rom ↔ a.toNat < 0x8000) ∧
    (region a = .vram ↔ 0x8000 ≤ a.toNat ∧ a.toNat < 0xA000) ∧
    (region a = .wram0 ↔ 0xC000 ≤ a.toNat ∧ a.toNat < 0xD000) ∧
    (region a = .wram1 ↔ 0xD000 ≤ a.toNat ∧ a.toNat < 0xE000) ∧
    (region a = .hram ↔ 0xFF80 ≤ a.toNat ∧ a.toNat < 0xFFFF) ∧
    (region a = .ie ↔ a = 0xFFFF) ∧
    (region a = .iflag ↔ a = 0xFF0F) ∧
    (region a = .ly ↔ a = 0xFF44) ∧
    (region a = .io ↔ 0xFF00 ≤ a.toNat ∧ a.toNat < 0xFF80 ∧ a ≠ 0xFF0F ∧ a ≠ 0xFF44) ∧
    (region a = .unmapped ↔
      0xA000 ≤ a.toNat ∧ a.toNat < 0xC000 ∨ 0xE000 ≤ a.toNat ∧ a.toNat < 0xFF00)

/-- `MemRead(a, 1)` by region (R83): the value, the event, and the whole state after; the byte of an unmapped
address is a free value, of which nothing is said. Instruction fetch reads through it, one read for each byte
of the instruction. -/
def Obligations.ReadByRegion : Prop :=
  (∀ (s : State) (a : Word),
    let r : State := { s with history := .read a :: s.history }
    match region a with
    | .ie => s.memRead a = (s.ie, r)
    | .iflag => s.memRead a = (s.iflag, r)
    | .ly => s.memRead a = (0x90, { r with mem := Memory.set s.mem 0xFF44 0x90 })
    | .unmapped => ∃ n, (s.memRead a).2 = { r with invalid := true, draws := n }
    | .rom | .wram0 | .wram1 | .hram | .vram | .io => s.memRead a = (Memory.get s.mem a.toNat, r)) ∧
  ∀ op : Byte, FetchReads op (opLength op)

/-- `MemWrite(a, 1, v)` by region (R84): the event and the whole state after. That the write to an unmapped
address is discarded and what the event records are decisions of the spec (92_eei_decisions.md D6, D28). -/
def Obligations.WriteByRegion : Prop :=
  ∀ (s : State) (a : Word) (v : Byte),
    let w : State := { s with history := .write a v :: s.history }
    match region a with
    | .ie => s.memWrite a v = { w with ie := v }
    | .iflag => s.memWrite a v = { w with iflag := v }
    | .ly => s.memWrite a v = { w with mem := Memory.set (Memory.set s.mem 0xFF44 0x90) 0xFF44 v }
    | .unmapped => s.memWrite a v = { w with invalid := true }
    | .rom | .wram0 | .wram1 | .hram | .vram | .io =>
      s.memWrite a v = { w with mem := Memory.set s.mem a.toNat v }

/-- A read returns what is stored and a write stores it, in every region of storage, and leaves every other
byte; the array cell behind 0xFF0F is reached by no address (R72 to R78). It rests on a decision of the spec:
the I/O cells other than 0xFF0F and 0xFF44 are plain storage too (R80, 92_eei_decisions.md D30). -/
def Obligations.WritesAreReadBack : Prop :=
  ∀ (s : State) (a : Word) (v : Byte),
    (s.mem.wf → region a ≠ .ly → region a ≠ .unmapped →
      (s.memWrite a v).byteAt a = some v ∧ ((s.memWrite a v).memRead a).1 = v) ∧
    (∀ b, b ≠ a → (s.memWrite a v).byteAt b = s.byteAt b) ∧
    (∀ b, (s.memRead a).2.byteAt b = s.byteAt b) ∧
    (∀ b, State.byteAt { s with mem := Memory.set s.mem 0xFF0F v } b = s.byteAt b)

/-- 0xFF44 reads 0x90 whatever was written to it or to any other address. It rests on a decision of the
spec (R79, 92_eei_decisions.md D21). -/
def Obligations.ScanlineRegisterReadsConstant : Prop :=
  ∀ (s : State) (a : Word) (v : Byte),
    (s.memRead 0xFF44).1 = 0x90 ∧ ((s.memWrite a v).memRead 0xFF44).1 = 0x90 ∧
      SameMemory s (s.memWrite 0xFF44 v) ∧ (s.memWrite 0xFF44 v).invalid = s.invalid

/-- `Push16(v)` (R88): `SP` is decremented by 2 first, the low byte lies at the lower address, and nothing
else changes. -/
def Obligations.PushStoresLowByteLower : Prop :=
  ∀ (s : State) (v : Word), Pushed v [] s (s.push16 v)

/-- A push and a pop give the value back and restore `SP` where both stack bytes keep what is written, and
restore `SP` in every case (R89; where a stack byte is no storage is an inference of the spec). -/
def Obligations.PopUndoesPush : Prop :=
  ∀ (s : State) (v : Word),
    (s.push16 v).pop16.2.sp = s.sp ∧
    (s.mem.wf → retains (s.sp - 1) = true → retains (s.sp - 2) = true → (s.push16 v).pop16.1 = v) ∧
    (∃ lo hi, Popped lo hi [] s s.pop16.2 ∧ s.pop16.1.toNat = hi.toNat * 256 + lo.toNat)

/-! ### Loads and stores (41_loads.md) -/

/-- `LD r8,r8'` (R300): the 49 register copies `mkLd`. -/
def Obligations.LoadRegisterFromRegister : Prop :=
  (∀ y z, y < 8 → z < 8 → y ≠ 6 → z ≠ 6 →
    encode (mkLoad (tableR8 y) (tableR8 z)) = [BitVec.ofNat 8 (0x40 + 8 * y + z)]) ∧
  ∀ (dst src : Reg8) (s : State),
    mkLoad (.reg dst) (.reg src) = mkLd dst src ∧
    ∃ t, exec (mkLd dst src) s = .next t ∧ t.reg8 dst = s.reg8 src ∧ SameExcept [.reg dst] s t ∧
      SameMemory s t

/-- The loads of a register from memory: `LD r8,(HL)` (R301, the 7 of `mkLdFromHL`), `LD A,(BC)` (R307),
`LD A,(DE)` (R308), `LDH A,(a8)` (R314), `LDH A,(C)` (R316), `LD A,(a16)` (R318). -/
def Obligations.LoadRegisterFromMemory : Prop :=
  (∀ y, y < 8 → y ≠ 6 → encode (mkLoad (tableR8 y) .atHL) = [BitVec.ofNat 8 (0x46 + 8 * y)]) ∧
  encode .ldAAtBC = [0x0A] ∧ encode .ldAAtDE = [0x1A] ∧ (∀ n, encode (.ldhAAtA8 n) = [0xF0, n]) ∧
  encode .ldhAAtC = [0xF2] ∧ (∀ a, encode (.ldAAtA16 a) = [0xFA, loByte a, hiByte a]) ∧
  FetchReads 0xF0 2 ∧ FetchReads 0xFA 3 ∧ (∀ n, unmapped (highPage n) = false) ∧
  (∀ n, (highPage n).toNat = 0xFF00 + n.toNat) ∧
  ∀ s : State,
    (∀ dst, mkLoad (.reg dst) .atHL = mkLdFromHL dst ∧
      ∃ t, exec (mkLdFromHL dst) s = .next t ∧ LoadedFrom dst s.hl s t) ∧
    (∃ t, exec .ldAAtBC s = .next t ∧ LoadedFrom .a s.bc s t) ∧
    (∃ t, exec .ldAAtDE s = .next t ∧ LoadedFrom .a s.de s t) ∧
    (∀ n, ∃ t, exec (.ldhAAtA8 n) s = .next t ∧ LoadedFrom .a (highPage n) s t) ∧
    (∃ t, exec .ldhAAtC s = .next t ∧ LoadedFrom .a (highPage s.c) s t) ∧
    (∀ a, ∃ t, exec (.ldAAtA16 a) s = .next t ∧ LoadedFrom .a a s t)

/-- The stores of one byte: `LD (HL),r8` (R302, the 7 of `mkLdToHL`), `LD (HL),n8` (R304), `LD (BC),A`
(R305), `LD (DE),A` (R306), `LDH (a8),A` (R313), `LDH (C),A` (R315), `LD (a16),A` (R317). -/
def Obligations.StoreOneByte : Prop :=
  (∀ z, z < 8 → z ≠ 6 → encode (mkLoad .atHL (tableR8 z)) = [BitVec.ofNat 8 (0x70 + z)]) ∧
  (∀ n, encode (.ldAtHLN8 n) = [0x36, n]) ∧ encode .ldAtBCA = [0x02] ∧ encode .ldAtDEA = [0x12] ∧
  (∀ n, encode (.ldhAtA8A n) = [0xE0, n]) ∧ encode .ldhAtCA = [0xE2] ∧
  (∀ a, encode (.ldAtA16A a) = [0xEA, loByte a, hiByte a]) ∧
  FetchReads 0x36 2 ∧ FetchReads 0xE0 2 ∧ FetchReads 0xEA 3 ∧
  (∀ n, unmapped (highPage n) = false ∧ (highPage n).toNat = 0xFF00 + n.toNat) ∧
  ∀ s : State,
    (∀ src, mkLoad .atHL (.reg src) = mkLdToHL src ∧
      ∃ t, exec (mkLdToHL src) s = .next t ∧ StoredTo s.hl (s.reg8 src) s t) ∧
    (∀ n, ∃ t, exec (.ldAtHLN8 n) s = .next t ∧ StoredTo s.hl n s t) ∧
    (∃ t, exec .ldAtBCA s = .next t ∧ StoredTo s.bc s.a s t) ∧
    (∃ t, exec .ldAtDEA s = .next t ∧ StoredTo s.de s.a s t) ∧
    (∀ n, ∃ t, exec (.ldhAtA8A n) s = .next t ∧ StoredTo (highPage n) s.a s t) ∧
    (∃ t, exec .ldhAtCA s = .next t ∧ StoredTo (highPage s.c) s.a s t) ∧
    (∀ a, ∃ t, exec (.ldAtA16A a) s = .next t ∧ StoredTo a s.a s t)

/-- The immediate loads and `LD SP,HL`: `LD r8,n8` (R303, the 7 of `mkLdImm`), `LD rr,n16` (R319, the 4 of
`mkLdPair`), `LD SP,HL` (R321). -/
def Obligations.LoadImmediate : Prop :=
  (∀ y n, y < 8 → y ≠ 6 → encode (mkLoadImm (tableR8 y) n) = [BitVec.ofNat 8 (0x06 + 8 * y), n]) ∧
  (∀ p n, p < 4 → encode (mkLdPair (tableRp p) n) = [BitVec.ofNat 8 (0x01 + 16 * p), loByte n, hiByte n]) ∧
  encode .ldSPHL = [0xF9] ∧
  (∀ y, y < 8 → FetchReads (BitVec.ofNat 8 (0x06 + 8 * y)) 2) ∧
  (∀ p, p < 4 → FetchReads (BitVec.ofNat 8 (0x01 + 16 * p)) 3) ∧
  ∀ s : State,
    (∀ dst n, mkLoadImm (.reg dst) n = mkLdImm dst n ∧
      ∃ t, exec (mkLdImm dst n) s = .next t ∧ t.reg8 dst = n ∧ SameExcept [.reg dst] s t ∧ SameMemory s t) ∧
    (∀ p n, ∃ t, exec (mkLdPair p n) s = .next t ∧ t.pair p = n ∧ SameExcept (pairItems p) s t ∧ SameMemory s t) ∧
    (∃ t, exec .ldSPHL s = .next t ∧ t.sp = s.hl ∧ SameExcept [.sp] s t ∧ SameMemory s t)

/-- The transfers through `HL` with post-modification: `LD (HL+),A` (R309), `LD (HL-),A` (R310),
`LD A,(HL+)` (R311), `LD A,(HL-)` (R312). -/
def Obligations.TransfersThatStepHL : Prop :=
  encode .ldAtHLIncA = [0x22] ∧ encode .ldAtHLDecA = [0x32] ∧ encode .ldAAtHLInc = [0x2A] ∧
  encode .ldAAtHLDec = [0x3A] ∧
  ∀ s : State,
    (∃ t, exec .ldAtHLIncA s = .next t ∧ Stored s t s.hl s.a ∧ t.hl.toNat = (s.hl.toNat + 1) % 65536 ∧
      Accesses [.write s.hl s.a] s t ∧ SameExcept [.reg .h, .reg .l, .invalid, .history] s t ∧
      SameMemoryExcept [s.hl] s t) ∧
    (∃ t, exec .ldAtHLDecA s = .next t ∧ Stored s t s.hl s.a ∧ t.hl.toNat = (s.hl.toNat + 65535) % 65536 ∧
      Accesses [.write s.hl s.a] s t ∧ SameExcept [.reg .h, .reg .l, .invalid, .history] s t ∧
      SameMemoryExcept [s.hl] s t) ∧
    (∃ t, exec .ldAAtHLInc s = .next t ∧ ReadsAs s s.hl t.a ∧ t.hl.toNat = (s.hl.toNat + 1) % 65536 ∧
      Accesses [.read s.hl] s t ∧ SameExcept (.reg .a :: .reg .h :: .reg .l :: accessItems) s t ∧
      SameMemory s t) ∧
    (∃ t, exec .ldAAtHLDec s = .next t ∧ ReadsAs s s.hl t.a ∧ t.hl.toNat = (s.hl.toNat + 65535) % 65536 ∧
      Accesses [.read s.hl] s t ∧ SameExcept (.reg .a :: .reg .h :: .reg .l :: accessItems) s t ∧
      SameMemory s t)

/-- The 16-bit accesses are little-endian, the second byte at the next address modulo 65536, the low byte
accessed first; and `LD (a16),SP` stores so. It rests on decisions of the spec (R86, R87, R320:
92_eei_decisions.md D2, D3, D14). -/
def Obligations.WideAccessesAreLittleEndian : Prop :=
  (∀ a, encode (.ldAtA16SP a) = [0x08, loByte a, hiByte a]) ∧ FetchReads 0x08 3 ∧
  ∀ (a : Word) (s : State),
    (∃ lo hi, ReadsAs s a lo ∧ ReadsAs s (a + 1) hi ∧
      (s.memRead16 a).1.toNat = hi.toNat * 256 + lo.toNat) ∧
    Accesses [.read a, .read (a + 1)] s (s.memRead16 a).2 ∧
    ∃ t, exec (.ldAtA16SP a) s = .next t ∧
      Stored s t a (BitVec.ofNat 8 (s.sp.toNat % 256)) ∧
      Stored s t (a + 1) (BitVec.ofNat 8 (s.sp.toNat / 256)) ∧
      Accesses [.write a (loByte s.sp), .write (a + 1) (hiByte s.sp)] s t ∧
      SameExcept [.invalid, .history] s t ∧ SameMemoryExcept [a, a + 1] s t

/-- `PUSH` of `BC`, `DE`, `HL` (R322) and `AF` (R323): the 4 of `mkPush`. The byte pushed last for `AF` has
its bits 3 to 0 clear. -/
def Obligations.PushPair : Prop :=
  (∀ p, p < 4 → encode (mkPush (tableRp2 p)) = [BitVec.ofNat 8 (0xC5 + 16 * p)]) ∧
  ∀ (p : StackPair) (s : State),
    (∃ t, exec (mkPush p) s = .next t ∧ Pushed (s.stackPair p) [] s t) ∧
    (s.stackPair .bc).toNat = s.b.toNat * 256 + s.c.toNat ∧
    (s.stackPair .de).toNat = s.d.toNat * 256 + s.e.toNat ∧
    (s.stackPair .hl).toNat = s.h.toNat * 256 + s.l.toNat ∧
    (s.stackPair .af).toNat = s.a.toNat * 256 + s.f.toNat / 16 * 16

/-- `POP` of `BC`, `DE`, `HL` (R324) and `AF` (R325): `.popBC`, `.popDE`, `.popHL`, `.popAF`. `POP AF` writes
all four flags from the popped byte and masks its low nibble. -/
def Obligations.PopPair : Prop :=
  encode .popBC = [0xC1] ∧ encode .popDE = [0xD1] ∧ encode .popHL = [0xE1] ∧ encode .popAF = [0xF1] ∧
  ∀ s : State,
    (∃ t, exec .popBC s = .next t ∧ Popped t.c t.b [.reg .b, .reg .c] s t) ∧
    (∃ t, exec .popDE s = .next t ∧ Popped t.e t.d [.reg .d, .reg .e] s t) ∧
    (∃ t, exec .popHL s = .next t ∧ Popped t.l t.h [.reg .h, .reg .l] s t) ∧
    (∃ t lo, exec .popAF s = .next t ∧ Popped lo t.a (.reg .a :: flagItems) s t ∧
      t.f.toNat = lo.toNat / 16 * 16 ∧
      FlagsAre t (lo.getLsbD 7) (lo.getLsbD 6) (lo.getLsbD 5) (lo.getLsbD 4))

/-! ### 8-bit arithmetic and logic (40_alu.md) -/

/-- `ADD` and `ADC` in all their forms (R200, R210 to R215): on the 7 registers, on an immediate, on the byte
at `HL`. -/
def Obligations.AddToAccumulator : Prop :=
  AccumulatorEncoding .add 0 ∧ AccumulatorEncoding .adc 1 ∧
  AccumulatorForms .add (.reg .a :: flagItems) (fun s t v => Added s t v 0) ∧
  AccumulatorForms .adc (.reg .a :: flagItems) (fun s t v => Added s t v s.flagC.toNat)

/-- `SUB`, `SBC` and `CP` in all their forms (R201, R216 to R221, R231 to R233): `CP` writes the flags
only. -/
def Obligations.SubtractFromAccumulator : Prop :=
  AccumulatorEncoding .sub 2 ∧ AccumulatorEncoding .sbc 3 ∧ AccumulatorEncoding .cp 7 ∧
  AccumulatorForms .sub (.reg .a :: flagItems) (fun s t v => Subtracted s t v 0 t.a.toNat) ∧
  AccumulatorForms .sbc (.reg .a :: flagItems) (fun s t v => Subtracted s t v s.flagC.toNat t.a.toNat) ∧
  AccumulatorForms .cp flagItems (fun s t v => ∃ res, Subtracted s t v 0 res)

/-- `AND`, `XOR` and `OR` in all their forms (R202, R222 to R230). -/
def Obligations.CombineWithAccumulator : Prop :=
  AccumulatorEncoding .and 4 ∧ AccumulatorEncoding .xor 5 ∧ AccumulatorEncoding .or 6 ∧
  AccumulatorForms .and (.reg .a :: flagItems)
    (fun s t v => Combined t (fun k => s.a.getLsbD k && v.getLsbD k) true) ∧
  AccumulatorForms .xor (.reg .a :: flagItems)
    (fun s t v => Combined t (fun k => s.a.getLsbD k != v.getLsbD k) false) ∧
  AccumulatorForms .or (.reg .a :: flagItems)
    (fun s t v => Combined t (fun k => s.a.getLsbD k || v.getLsbD k) false)

/-- `INC` and `DEC` on the 7 registers and on `(HL)` (R203, R234 to R237; `mkInc`, `mkDec`): `C` is left
alone. -/
def Obligations.IncrementAndDecrement : Prop :=
  (∀ y, y < 8 → encode (mkInc (tableR8 y)) = [BitVec.ofNat 8 (0x04 + 8 * y)] ∧
    encode (mkDec (tableR8 y)) = [BitVec.ofNat 8 (0x05 + 8 * y)]) ∧
  ModifyForms mkInc [.flagZ, .flagN, .flagH] (fun s t v w =>
    w.toNat = (v.toNat + 1) % 256 ∧ FlagsAre t (decide (w.toNat = 0)) false (decide (v.toNat % 16 = 15)) s.flagC) ∧
  ModifyForms mkDec [.flagZ, .flagN, .flagH] (fun s t v w =>
    w.toNat = (v.toNat + 255) % 256 ∧ FlagsAre t (decide (w.toNat = 0)) true (decide (v.toNat % 16 = 0)) s.flagC)

/-- `DAA` (R238): the correction is 0x06 and 0x60, each under its own test of the old `A` and flags. -/
def Obligations.DecimalAdjust : Prop :=
  encode .daa = [0x27] ∧
  ∀ s : State,
    let low := s.flagH = true ∨ s.flagN = false ∧ 9 < s.a.toNat % 16
    let high := s.flagC = true ∨ s.flagN = false ∧ 0x99 < s.a.toNat
    ∃ t u, exec .daa s = .next t ∧
      (low ∧ high → u = 0x66) ∧ (low ∧ ¬high → u = 0x06) ∧ (¬low ∧ high → u = 0x60) ∧
      (¬low ∧ ¬high → u = 0) ∧
      (s.flagN = false → t.a.toNat = (s.a.toNat + u) % 256) ∧
      (s.flagN = true → t.a.toNat = (s.a.toNat + 256 - u) % 256) ∧
      t.flagZ = decide (t.a.toNat = 0) ∧ t.flagN = s.flagN ∧ t.flagH = false ∧ (t.flagC = true ↔ high) ∧
      SameExcept [.reg .a, .flagZ, .flagH, .flagC] s t ∧ SameMemory s t

/-- `DAA` after an addition or a subtraction of two-digit decimal numbers gives the decimal result, the
carry holding the hundreds or the borrow: what the algorithm of R238 is for (93_implementation_defined.md
G4). -/
def Obligations.DecimalAdjustIsDecimal : Prop :=
  ∀ (s t u : State) (v : Byte) (x y : Nat), x < 100 → y < 100 → s.a.toNat = bcd x → v.toNat = bcd y →
    (exec (.addAN8 v) s = .next t → exec .daa t = .next u →
      u.a.toNat = bcd ((x + y) % 100) ∧ u.flagC = decide (100 ≤ x + y)) ∧
    (exec (.subN8 v) s = .next t → exec .daa t = .next u →
      u.a.toNat = bcd ((x + 100 - y) % 100) ∧ u.flagC = decide (x < y))

/-- `CPL` (R239), `SCF` (R240) and `CCF` (R241). -/
def Obligations.ComplementAndCarryFlag : Prop :=
  encode .cpl = [0x2F] ∧ encode .scf = [0x37] ∧ encode .ccf = [0x3F] ∧
  ∀ s : State,
    (∃ t, exec .cpl s = .next t ∧ t.a.toNat = 255 - s.a.toNat ∧ FlagsAre t s.flagZ true true s.flagC ∧
      SameExcept [.reg .a, .flagN, .flagH] s t ∧ SameMemory s t) ∧
    (∃ t, exec .scf s = .next t ∧ FlagsAre t s.flagZ false false true ∧
      SameExcept [.flagN, .flagH, .flagC] s t ∧ SameMemory s t) ∧
    (∃ t, exec .ccf s = .next t ∧ FlagsAre t s.flagZ false false (!s.flagC) ∧
      SameExcept [.flagN, .flagH, .flagC] s t ∧ SameMemory s t)

/-! ### 16-bit arithmetic (42_wide.md) -/

/-- `INC rr` (R402) and `DEC rr` (R403): modulo 65536, and no flag changes. -/
def Obligations.IncrementAndDecrementPair : Prop :=
  (∀ p, p < 4 → encode (mkIncPair (tableRp p)) = [BitVec.ofNat 8 (0x03 + 16 * p)] ∧
    encode (mkDecPair (tableRp p)) = [BitVec.ofNat 8 (0x0B + 16 * p)]) ∧
  ∀ (p : Pair) (s : State),
    (∃ t, exec (mkIncPair p) s = .next t ∧ (t.pair p).toNat = ((s.pair p).toNat + 1) % 65536 ∧
      SameExcept (pairItems p) s t ∧ SameMemory s t) ∧
    (∃ t, exec (mkDecPair p) s = .next t ∧ (t.pair p).toNat = ((s.pair p).toNat + 65535) % 65536 ∧
      SameExcept (pairItems p) s t ∧ SameMemory s t)

/-- `ADD HL,rr` (R400, R404): half-carry out of bit 11, carry out of bit 15, `Z` left alone. -/
def Obligations.AddPairToHL : Prop :=
  (∀ p, p < 4 → encode (mkAddHL (tableRp p)) = [BitVec.ofNat 8 (0x09 + 16 * p)]) ∧
  ∀ (p : Pair) (s : State), ∃ t, exec (mkAddHL p) s = .next t ∧
    t.hl.toNat = (s.hl.toNat + (s.pair p).toNat) % 65536 ∧
    FlagsAre t s.flagZ false (decide (0xFFF < s.hl.toNat % 0x1000 + (s.pair p).toNat % 0x1000))
      (decide (0xFFFF < s.hl.toNat + (s.pair p).toNat)) ∧
    SameExcept [.reg .h, .reg .l, .flagN, .flagH, .flagC] s t ∧ SameMemory s t

/-- `ADD SP,e8` (R405) and `LD HL,SP+e8` (R406): the signed offset is added, and the flags are those of the
unsigned addition to the low byte (R401). -/
def Obligations.AddSignedToStackPointer : Prop :=
  (∀ e, encode (.addSPE8 e) = [0xE8, e]) ∧ (∀ e, encode (.ldHLSPE8 e) = [0xF8, e]) ∧
  FetchReads 0xE8 2 ∧ FetchReads 0xF8 2 ∧
  ∀ (e : Byte) (s : State),
    let half := decide (15 < s.sp.toNat % 16 + e.toNat % 16)
    let carry := decide (255 < s.sp.toNat % 256 + e.toNat)
    (∃ t, exec (.addSPE8 e) s = .next t ∧ (t.sp.toNat : Int) = ((s.sp.toNat : Int) + signed8 e) % 65536 ∧
      FlagsAre t false false half carry ∧ SameExcept (.sp :: flagItems) s t ∧ SameMemory s t) ∧
    (∃ t, exec (.ldHLSPE8 e) s = .next t ∧ (t.hl.toNat : Int) = ((s.sp.toNat : Int) + signed8 e) % 65536 ∧
      FlagsAre t false false half carry ∧ SameExcept (.reg .h :: .reg .l :: flagItems) s t ∧ SameMemory s t)

/-! ### Control transfer (43_control.md) -/

/-- The unconditional jumps: `JP a16` (R500), `JP HL` (R502), `JR e8` (R503). -/
def Obligations.JumpAlways : Prop :=
  (∀ a, encode (.jpA16 a) = [0xC3, loByte a, hiByte a]) ∧ encode .jpHL = [0xE9] ∧
  (∀ e, encode (.jrE8 e) = [0x18, e]) ∧ FetchReads 0xC3 3 ∧ FetchReads 0x18 2 ∧
  ∀ s : State,
    (∀ a, ∃ t, exec (.jpA16 a) s = .next t ∧ Jumped a.toNat s t) ∧
    (∃ t, exec .jpHL s = .next t ∧ Jumped (s.h.toNat * 256 + s.l.toNat) s t) ∧
    (∀ e, ∃ t, exec (.jrE8 e) s = .next t ∧ Jumped (relative s e) s t)

/-- The conditional jumps: `JP cc,a16` (R501, the 4 of `mkJp`) and `JR cc,e8` (R504, the 4 of `mkJr`). Where
the condition (R126) is false the meaning changes nothing, and the immediate bytes have been read all the
same. -/
def Obligations.JumpOnCondition : Prop :=
  (∀ k a, k < 4 → encode (mkJp (tableCc k) a) = [BitVec.ofNat 8 (0xC2 + 8 * k), loByte a, hiByte a]) ∧
  (∀ k e, k < 4 → encode (mkJr (tableCc k) e) = [BitVec.ofNat 8 (0x20 + 8 * k), e]) ∧
  (∀ k, k < 4 → FetchReads (BitVec.ofNat 8 (0xC2 + 8 * k)) 3 ∧ FetchReads (BitVec.ofNat 8 (0x20 + 8 * k)) 2) ∧
  ∀ s : State,
    (s.cond .nz = !s.flagZ ∧ s.cond .z = s.flagZ ∧ s.cond .nc = !s.flagC ∧ s.cond .c = s.flagC) ∧
    ∀ k : Cond,
      (∀ a, ∃ t, exec (mkJp k a) s = .next t ∧ (s.cond k = true → Jumped a.toNat s t) ∧
        (s.cond k = false → t = s)) ∧
      (∀ e, ∃ t, exec (mkJr k e) s = .next t ∧ (s.cond k = true → Jumped (relative s e) s t) ∧
        (s.cond k = false → t = s))

/-- The calls: `CALL a16` (R505), `CALL cc,a16` (R506, the 4 of `mkCall`), `RST n` (R510, the 8 of `mkRst`).
The return address is that of the next instruction; the stack is not touched where the condition is false. -/
def Obligations.CallPushesReturnAddress : Prop :=
  (∀ a, encode (.callA16 a) = [0xCD, loByte a, hiByte a]) ∧
  (∀ k a, k < 4 → encode (mkCall (tableCc k) a) = [BitVec.ofNat 8 (0xC4 + 8 * k), loByte a, hiByte a]) ∧
  (∀ y : Fin 8, encode (mkRst y) = [BitVec.ofNat 8 (0xC7 + 8 * y.val)]) ∧
  FetchReads 0xCD 3 ∧ (∀ k, k < 4 → FetchReads (BitVec.ofNat 8 (0xC4 + 8 * k)) 3) ∧
  ∀ s : State,
    (∀ a, ∃ t, exec (.callA16 a) s = .next t ∧ Pushed (s.pc + 3) [.pc, .redirect] s t ∧ t.pc = a ∧
      t.redirect = true) ∧
    (∀ k a, ∃ t, exec (mkCall k a) s = .next t ∧
      (s.cond k = true → Pushed (s.pc + 3) [.pc, .redirect] s t ∧ t.pc = a ∧ t.redirect = true) ∧
      (s.cond k = false → t = s)) ∧
    (∀ y : Fin 8, ∃ t, exec (mkRst y) s = .next t ∧ Pushed (s.pc + 1) [.pc, .redirect] s t ∧
      t.pc.toNat = 8 * y.val ∧ t.redirect = true)

/-- The returns: `RET` (R507) and `RET cc` (R508, the 4 of `mkRet`). Where the condition is false the meaning
changes nothing: no stack read. -/
def Obligations.ReturnPopsTarget : Prop :=
  encode .ret = [0xC9] ∧ (∀ k, k < 4 → encode (mkRet (tableCc k)) = [BitVec.ofNat 8 (0xC0 + 8 * k)]) ∧
  ∀ s : State,
    (∃ t lo hi, exec .ret s = .next t ∧ Popped lo hi [.pc, .redirect] s t ∧
      t.pc.toNat = hi.toNat * 256 + lo.toNat ∧ t.redirect = true) ∧
    (∀ k, ∃ t, exec (mkRet k) s = .next t ∧
      (s.cond k = true → ∃ lo hi, Popped lo hi [.pc, .redirect] s t ∧
        t.pc.toNat = hi.toNat * 256 + lo.toNat ∧ t.redirect = true) ∧
      (s.cond k = false → t = s))

/-- `RETI`: a return that also sets `IME`, at once. That it does so at once is a decision of the spec (R509,
92_eei_decisions.md D10). -/
def Obligations.ReturnFromInterruptSetsIme : Prop :=
  encode .reti = [0xD9] ∧
  ∀ s : State, ∃ t lo hi, exec .reti s = .next t ∧ Popped lo hi [.pc, .redirect, .ime] s t ∧
    t.pc.toNat = hi.toNat * 256 + lo.toNat ∧ t.redirect = true ∧ t.ime = true

/-! ### Rotates, shifts and bits (44_rotate_shift_bit.md) -/

/-- `RLCA` (R601), `RRCA` (R602), `RLA` (R603), `RRA` (R604): `Z` is 0 whatever the result. -/
def Obligations.RotateAccumulator : Prop :=
  encode .rlca = [0x07] ∧ encode .rrca = [0x0F] ∧ encode .rla = [0x17] ∧ encode .rra = [0x1F] ∧
  ∀ s : State, ∀ io ∈ [(Instr.rlca, RotOp.rlc), (.rrca, .rrc), (.rla, .rl), (.rra, .rr)],
    ∃ t, exec io.1 s = .next t ∧ (∀ k, k < 8 → t.a.getLsbD k = rotatedBit io.2 s.a s.flagC k) ∧
      FlagsAre t false false false (rotatedOut io.2 s.a) ∧ SameExcept (.reg .a :: flagItems) s t ∧
      SameMemory s t

/-- A rotate, shift or swap of the extended page in both its forms, with the flags of R605. -/
def Sys2Proof.Claims.RotatesBy (op : RotOp) : Prop :=
  ModifyForms (mkRot op) flagItems (fun s t v w =>
    (∀ k, k < 8 → w.getLsbD k = rotatedBit op v s.flagC k) ∧
      FlagsAre t (decide (w.toNat = 0)) false false (rotatedOut op v))

/-- The extended rotates `RLC`, `RRC`, `RL`, `RR` (R610 to R617) on the 7 registers and on `(HL)`: 32 of the 64
of `mkRot`. -/
def Obligations.RotateOperand : Prop :=
  (∀ y z, y < 4 → z < 8 → encode (mkRot (tableRot y) (tableR8 z)) = [0xCB, BitVec.ofNat 8 (8 * y + z)]) ∧
  FetchReads 0xCB 2 ∧ RotatesBy .rlc ∧ RotatesBy .rrc ∧ RotatesBy .rl ∧ RotatesBy .rr

/-- The extended shifts `SLA`, `SRA`, `SRL` and `SWAP` (R618 to R625) on the 7 registers and on `(HL)`: the
other 32 of `mkRot`. -/
def Obligations.ShiftAndSwapOperand : Prop :=
  (∀ y z, 4 ≤ y → y < 8 → z < 8 →
    encode (mkRot (tableRot y) (tableR8 z)) = [0xCB, BitVec.ofNat 8 (8 * y + z)]) ∧
  FetchReads 0xCB 2 ∧ RotatesBy .sla ∧ RotatesBy .sra ∧ RotatesBy .swap ∧ RotatesBy .srl

/-- `BIT b,r8` (R626) and `BIT b,(HL)` (R627): the 64 of `mkBit`. The operand is not written. -/
def Obligations.TestOneBit : Prop :=
  (∀ (b : Fin 8) (z : Nat), z < 8 → encode (mkBit b (tableR8 z)) = [0xCB, BitVec.ofNat 8 (0x40 + 8 * b.val + z)]) ∧
  FetchReads 0xCB 2 ∧
  ∀ (b : Fin 8) (s : State),
    (∀ r, ∃ t, exec (mkBit b (.reg r)) s = .next t ∧
      FlagsAre t (!(s.reg8 r).getLsbD b.val) false true s.flagC ∧
      SameExcept [.flagZ, .flagN, .flagH] s t ∧ SameMemory s t) ∧
    (∃ t v, exec (mkBit b .atHL) s = .next t ∧ ReadsAs s s.hl v ∧
      FlagsAre t (!v.getLsbD b.val) false true s.flagC ∧ Accesses [.read s.hl] s t ∧
      SameExcept ([.flagZ, .flagN, .flagH] ++ accessItems) s t ∧ SameMemory s t)

/-- `RES b,r8` (R628), `RES b,(HL)` (R629), `SET b,r8` (R630), `SET b,(HL)` (R631): the 128 of `mkRes` and
`mkSet`. No flag changes, and the write to memory happens whatever the bit was. -/
def Obligations.ResetAndSetOneBit : Prop :=
  (∀ (b : Fin 8) (z : Nat), z < 8 →
    encode (mkRes b (tableR8 z)) = [0xCB, BitVec.ofNat 8 (0x80 + 8 * b.val + z)] ∧
    encode (mkSet b (tableR8 z)) = [0xCB, BitVec.ofNat 8 (0xC0 + 8 * b.val + z)]) ∧
  FetchReads 0xCB 2 ∧
  ∀ b : Fin 8,
    ModifyForms (mkRes b) [] (fun _ _ v w => ∀ k, k < 8 → w.getLsbD k = (v.getLsbD k && decide (k ≠ b.val))) ∧
    ModifyForms (mkSet b) [] (fun _ _ v w => ∀ k, k < 8 → w.getLsbD k = (v.getLsbD k || decide (k = b.val)))

/-! ### System instructions and illegal bytes (45_system.md) -/

/-- `NOP` (R700): nothing changes, and the advance after it moves `PC` by 1. -/
def Obligations.NopChangesNothing : Prop :=
  encode .nop = [0x00] ∧ ∀ s : State, exec .nop s = .next s ∧
    (s.redirect = false → s.advance (instrLength .nop) = { s with pc := s.pc + 1 })

/-- `HALT`, `STOP`, `DI` and `EI`: one control bit each, at once, and nothing else; and the 11 illegal bytes:
each sets `unimpl`, changes nothing else and is 1 byte long. They rest on decisions of the spec (R136, R701 to
R705: 92_eei_decisions.md D5, D10, D11, D12). -/
def Obligations.SystemInstructionsAndIllegalBytes : Prop :=
  encode .halt = [0x76] ∧ (∀ n, encode (.stop n) = [0x10, n]) ∧ encode .di = [0xF3] ∧ encode .ei = [0xFB] ∧
  FetchReads 0x10 2 ∧
  (∀ s : State,
    exec .halt s = .next { s with halted := true } ∧
    (∀ n, exec (.stop n) s = .next { s with halted := true }) ∧
    exec .di s = .next { s with ime := false } ∧ exec .ei s = .next { s with ime := true }) ∧
  ∀ ib ∈ [(Instr.illegalD3, (0xD3 : Byte)), (.illegalDB, 0xDB), (.illegalDD, 0xDD), (.illegalE3, 0xE3),
      (.illegalE4, 0xE4), (.illegalEB, 0xEB), (.illegalEC, 0xEC), (.illegalED, 0xED), (.illegalF4, 0xF4),
      (.illegalFC, 0xFC), (.illegalFD, 0xFD)],
    encode ib.1 = [ib.2] ∧ instrLength ib.1 = 1 ∧
      ∀ s : State, exec ib.1 s = .next { s with unimpl := true }

/-- `unimpl` is set by the execution of an illegal byte and by nothing else, and no command of the host
but `ClearUnimpl` clears it (R42). -/
def Obligations.UnimplementedSignal : Prop :=
  (∀ (i : Instr) (s t : State), exec i s = .next t →
    t.unimpl = (s.unimpl || decide (opcodeOf i ∈
      ([0xD3, 0xDB, 0xDD, 0xE3, 0xE4, 0xEB, 0xEC, 0xED, 0xF4, 0xFC, 0xFD] : List Byte)))) ∧
  (∀ (cmd : Command) (s : State) (r : Reply × State), command cmd s = .next r → s.unimpl = true →
    (r.2.unimpl = false ↔ cmd = .clearUnimpl))

/-! ### The step (30_encoding.md section 7) -/

/-- A step runs the decoded instruction. When the engine is not halted and the bytes from `PC` on read as the
encoding of `i`, the step is `exec i` on the state after the capture (R147) and the fetch (R140), followed by
the count (R148) and the advance (R141); the fetch changes the snapshot, the history and, where it reads
0xFF44, the cell no read sees. -/
def Obligations.StepRunsTheDecodedInstruction : Prop :=
  ∀ (s : State) (i : Instr), s.halted = false →
    (∀ k, k < (encode i).length → s.byteAt (s.pc + BitVec.ofNat 16 k) = (encode i)[k]?) →
    ∃ u : State,
      SameExcept [.snap, .history] s u ∧ SameMemory s u ∧ u.snap = s.snapshot ∧
      u.history = ((List.range (encode i).length).map fun k =>
        AccessEvent.read (s.pc + BitVec.ofNat 16 k)).reverse ++ s.history ∧
      ((∀ k, k < (encode i).length → s.pc + BitVec.ofNat 16 k ≠ 0xFF44) → u.mem = s.mem) ∧
      step s =
        match exec i u with
        | .next t => .next (t.finish i)
        | .fault r => .fault r
        | .refused r => .refused r

/-- The advance (R141): a redirected `PC` is left alone and the flag cleared, else `PC` moves by the length of
the instruction modulo 65536. -/
def Obligations.AdvanceMovesPastTheInstruction : Prop :=
  ∀ (s : State) (i : Instr), ∃ t, t = s.advance (instrLength i) ∧
    (s.redirect = true → t.pc = s.pc ∧ t.redirect = false) ∧
    (s.redirect = false → t.pc.toNat = (s.pc.toNat + (encode i).length) % 65536 ∧ t.redirect = false) ∧
    SameExcept [.pc, .redirect] s t ∧ SameMemory s t

/-- A step taken while halted: nothing but the capture and, where `(IE & IF & 0x1F) != 0`, the wake-up; so a
run that has ended on a halt stays ended. It rests on decisions of the spec (R144, R908: 92_eei_decisions.md
D11, D29). -/
def Obligations.HaltedStepOnlyWakes : Prop :=
  (∀ s : State, s.halted = true →
    (((s.ie.toNat % 32) &&& (s.iflag.toNat % 32)) ≠ 0 →
      step s = .next { s with snap := s.snapshot, halted := false }) ∧
    (((s.ie.toNat % 32) &&& (s.iflag.toNat % 32)) = 0 → step s = .next { s with snap := s.snapshot })) ∧
  ∀ s : State, s.ends .onHalt = true → ∃ t, step s = .next t ∧ t.ends .onHalt = true

/-- Every step begins by capturing the six 16-bit registers (R147), and nothing in the step changes the
capture. -/
def Obligations.StepCapturesTheRegisters : Prop :=
  ∀ s t : State, step s = .next t →
    t.snap.af = s.af ∧ t.snap.bc = s.bc ∧ t.snap.de = s.de ∧ t.snap.hl = s.hl ∧ t.snap.sp = s.sp ∧
      t.snap.pc = s.pc

/-- No event stops the block (R800): from every state a step answers a next state, and so does every
instruction. Every step counts one executed instruction, the illegal bytes included, unless halted, and no
instruction writes the count: a decision of the spec (R148, 92_eei_decisions.md D15). -/
def Obligations.EveryStepCompletesAndCounts : Prop :=
  (∀ s : State, ∃ t, step s = .next t ∧ t.icount = s.icount + (if s.halted then 0 else 1)) ∧
  ∀ (i : Instr) (s : State), ∃ t, exec i s = .next t ∧ t.icount = s.icount

/-- The invariant holds at reset and at construction from any image. -/
def Obligations.ResetMeetsTheInvariant : Prop :=
  State.reset.Inv ∧ ∀ (image : List Byte) (s : State), construct image = some s → s.Inv

/-- Every step and every command of the host keeps the invariant: the unused flag bits are 0 (R34),
`redirect` is 0 between steps (R38), and the memory keeps its canonical form. -/
def Obligations.StepKeepsTheInvariant : Prop :=
  (∀ s t : State, s.Inv → step s = .next t → t.Inv) ∧
  ∀ (cmd : Command) (s : State) (r : Reply × State), s.Inv → command cmd s = .next r → r.2.Inv

/-- A step sets `invalid` exactly when one of its accesses, fetch or data, is to an unmapped address, and no
step and no command of the host but `ClearInvalid` clears it (R82). -/
def Obligations.InvalidExactlyByUnmappedAccess : Prop :=
  (∀ s t : State, step s = .next t → ∃ evs, Accesses evs s t) ∧
  (∀ (s : State) (a : Word) (v : Byte),
    (s.memRead a).2.invalid = (s.invalid || unmapped a) ∧
      (s.memWrite a v).invalid = (s.invalid || unmapped a)) ∧
  (∀ (cmd : Command) (s : State) (r : Reply × State), command cmd s = .next r → s.invalid = true →
    (r.2.invalid = false ↔ cmd = .clearInvalid))

/-- A step changes a byte of memory only through a write that stands in the access history with its address
and value (R84, R85, R92). -/
def Obligations.MemoryChangesAreRecordedWrites : Prop :=
  ∀ s t : State, s.mem.wf → step s = .next t →
    ∃ evs, t.history = evs ++ s.history ∧
      ∀ a v, t.byteAt a = some v → s.byteAt a ≠ some v → AccessEvent.write a v ∈ evs

/-- What no instruction can read has no influence on what a program sees: `IME`, the two signals, the
instruction count, the snapshot and the access history (R50, R85, R805). -/
def Obligations.HiddenStateDoesNotInterfere : Prop :=
  ∀ s s' t : State, programView s = programView s' → step s = .next t →
    ∃ t', step s' = .next t' ∧ programView t = programView t'

/-- `IME` is written by `DI`, `EI` and `RETI` only, and `halted` is set by `HALT` and `STOP` only; no other
instruction changes either. It rests on decisions of the spec (R39, R40: 92_eei_decisions.md D10 to D12). -/
def Obligations.ControlBitsHaveTheirWriters : Prop :=
  ∀ (i : Instr) (s t : State), exec i s = .next t →
    (t.ime = s.ime ∨ (i = .di ∧ t.ime = false) ∨ ((i = .ei ∨ i = .reti) ∧ t.ime = true)) ∧
    (t.halted = s.halted ∨ ((i = .halt ∨ ∃ n, i = .stop n) ∧ t.halted = true))

/-! ### The host interface (60_exceptions.md, 70_reset_and_hazards.md) -/

/-- `Construct(image)`: the ROM holds the image, padded with zeros, every other byte is 0x00, and the rest is
the reset state; an empty image fails. It rests on decisions of the spec (R816, R900: 92_eei_decisions.md D7,
D8, D22). -/
def Obligations.ConstructPlacesTheImage : Prop :=
  construct [] = none ∧
  ∀ image : List Byte, image ≠ [] → ∃ s, construct image = some s ∧
    (∀ a : Word, a.toNat < 0x8000 → s.byteAt a = some (image.getD a.toNat 0)) ∧
    (∀ a : Word, 0x8000 ≤ a.toNat → unmapped a = false → a ≠ 0xFF44 → s.byteAt a = some 0) ∧
    { s with mem := [] } = State.reset

/-- `Reset(profile)`: the profile's registers, `IME`, `halted` and `redirect` 0, zero in every array but ROM,
and everything else unchanged. It rests on decisions of the spec (R48, R901: 92_eei_decisions.md D9, D17). -/
def Obligations.ResetCommandRestoresTheProfile : Prop :=
  ∀ s : State,
    (let t := s.resetCommand .dmg
     t.af = 0x01B0 ∧ t.bc = 0x0013 ∧ t.de = 0x00D8 ∧ t.hl = 0x014D ∧ t.sp = 0xFFFE ∧ t.pc = 0x0100) ∧
    (let t := s.resetCommand .alt
     t.af = 0x1180 ∧ t.bc = 0x0000 ∧ t.de = 0xFF56 ∧ t.hl = 0x000D ∧ t.sp = 0xFFFE ∧ t.pc = 0x0100) ∧
    ∀ p : Profile,
      let t := s.resetCommand p
      t.ime = false ∧ t.halted = false ∧ t.redirect = false ∧ t.ie = s.ie ∧ t.iflag = s.iflag ∧
      t.invalid = s.invalid ∧ t.unimpl = s.unimpl ∧ t.icount = s.icount ∧ t.snap = s.snap ∧
      t.history = s.history ∧
      (∀ a : Word, region a = .rom → t.byteAt a = s.byteAt a) ∧
      (∀ a : Word, region a = .vram ∨ region a = .wram0 ∨ region a = .wram1 ∨ region a = .hram ∨
        region a = .io → t.byteAt a = some 0)

/-- The run of a launch (R908): it ends at the first step boundary at which the end condition holds, the
boundary before the first step included; while there is none it is not over, and then the budget says nothing
of its end: a larger one may find it, and an end once found stays. A run that ends with a signal set ends
faulted. Every end, and every run not over, is one at which `NoInterruptDue` holds (R805): a run that breaks that
premise has neither, and answers `interruptDue`. It rests on decisions of the spec (R805, R908:
92_eei_decisions.md D13, D29); that the end condition is tested before the pokes of its boundary and the premise
before and after them is the model's choice (log entries 24 and 25, DESIGN CHOICE). -/
def Obligations.RunEndsAtTheFirstBoundary : Prop :=
  (∀ (p : EndCondition) (schedule : Schedule) (s t : State),
    (runUntil p schedule s = .next t.endAs ↔
      NoInterruptDue p schedule s ∧
        ∃ n, n ≤ schedule.length ∧ turns (schedule.take n) s = .next t ∧ t.ends p = true ∧
          ∀ m, m < n → ∃ u, turns (schedule.take m) s = .next u ∧ u.ends p = false) ∧
    (runUntil p schedule s = .next (.notOver t) ↔
      NoInterruptDue p schedule s ∧ turns schedule s = .next t ∧
        ∀ m, m ≤ schedule.length → ∃ u, turns (schedule.take m) s = .next u ∧ u.ends p = false) ∧
    (∀ more : Schedule, runUntil p schedule s = .next t.endAs →
      runUntil p (schedule ++ more) s = .next t.endAs)) ∧
  (∀ (p : EndCondition) (schedule : Schedule) (s : State),
    (¬NoInterruptDue p schedule s → ∃ t, runUntil p schedule s = .next (.interruptDue t)) ∧
    (∀ t, runUntil p schedule s = .next (.interruptDue t) →
      ¬NoInterruptDue p schedule s ∧ t.ime = true ∧ ((t.ie.toNat % 32) &&& (t.iflag.toNat % 32)) ≠ 0) ∧
    (NoInterruptDue p schedule s →
      ∃ t, runUntil p schedule s = .next t.endAs ∨ runUntil p schedule s = .next (.notOver t))) ∧
  (∀ (s : State) (e : Word), s.ends (.atAddress e) = true ↔ s.pc = e ∧ s.halted = false) ∧
  (∀ s : State, s.ends .onHalt = true ↔
    s.halted = true ∧ ((s.ie.toNat % 32) &&& (s.iflag.toNat % 32)) = 0) ∧
  (∀ s : State, (s.invalid = true ∨ s.unimpl = true → s.endAs = .faulted s) ∧
    (s.invalid = false ∧ s.unimpl = false → s.endAs = .success s)) ∧
  ∀ (l : Launch) (schedule : Schedule),
    (l.image = [] → l.run schedule = none) ∧
    ∀ s, construct l.image = some s →
      (l.profile = none → l.run schedule = some (runUntil l.endCondition schedule s)) ∧
      ∀ p, l.profile = some p → l.run schedule = some (runUntil l.endCondition schedule (s.resetCommand p))

/-- `Rewind()` after a step gives the six 16-bit registers back as they were before it and leaves memory, the
signals, `IME`, `halted` and the count as the step left them. It rests on a decision of the spec (R44, R815:
92_eei_decisions.md D16). -/
def Obligations.RewindRestoresTheRegisters : Prop :=
  ∀ s t : State, step s = .next t →
    t.rewind.af = s.af ∧ t.rewind.bc = s.bc ∧ t.rewind.de = s.de ∧ t.rewind.hl = s.hl ∧
      t.rewind.sp = s.sp ∧ t.rewind.pc = s.pc ∧ SameMemory t t.rewind ∧
      SameExcept ([.reg .a, .reg .b, .reg .c, .reg .d, .reg .e, .reg .h, .reg .l, .sp, .pc] ++ flagItems)
        t t.rewind

/-- The host's diagnostic accesses (R100, R815): they read and store as the bus does, and leave no event. They
rest on decisions of the spec (92_eei_decisions.md D18, D24). -/
def Obligations.HostAccessesLeaveNoEvent : Prop :=
  ∀ (s : State) (a : Word) (v : Byte),
    (s.peekByte a).1 = (s.memRead a).1 ∧ (s.peekByte a).2.history = s.history ∧
      SameMemory s (s.peekByte a).2 ∧ (s.pokeByte a v).history = s.history ∧
      (∀ b, (s.pokeByte a v).byteAt b = (s.memWrite a v).byteAt b) ∧
      (s.peekByte a).2.invalid = (s.invalid || unmapped a) ∧
      (s.pokeByte a v).invalid = (s.invalid || unmapped a)
end

