-- ==== Sys2Proof/Laws/Memory.lean ====
section
/-! SUPPORT. The laws of the memory as data: read after write, and that every operation keeps the canonical
form. -/

namespace Sys2Proof.Machine

/-- A memory whose addresses are all above `a` has nothing under `a`. -/
theorem Memory.get_of_lt {m : Memory} {a : Nat} (h : ∀ cell ∈ m, a < cell.1) : Memory.get m a = 0 := by
  induction m with
  | nil => rfl
  | cons cell rest ih =>
    obtain ⟨k, x⟩ := cell
    have hk : a < k := h (k, x) (by simp)
    have hne : k ≠ a := by omega
    simp only [Memory.get, if_neg hne]
    exact ih fun c hc => h c (by simp [hc])

/-- The entries of a write are old ones or the one written. -/
theorem Memory.mem_set {m : Memory} {a : Nat} {v : Byte} {cell : Host.Cell} (h : cell ∈ Memory.set m a v) :
    cell ∈ m ∨ (cell = (a, v) ∧ v ≠ 0) := by
  induction m with
  | nil =>
    simp only [Memory.set] at h
    split at h <;> simp_all
  | cons hd rest ih =>
    obtain ⟨k, x⟩ := hd
    simp only [Memory.set] at h
    split at h
    · split at h
      · exact .inl h
      · rcases List.mem_cons.1 h with h | h
        · exact .inr ⟨h, ‹_›⟩
        · exact .inl h
    · split at h
      · split at h
        · exact .inl (by simp [h])
        · rcases List.mem_cons.1 h with h | h
          · exact .inr ⟨h, ‹_›⟩
          · exact .inl (by simp [h])
      · rcases List.mem_cons.1 h with h | h
        · exact .inl (by simp [h])
        · rcases ih h with h | h
          · exact .inl (by simp [h])
          · exact .inr h

/-- A write keeps the canonical form. -/
theorem Memory.set_wf {m : Memory} (h : m.wf) (a : Nat) (v : Byte) : (Memory.set m a v).wf := by
  obtain ⟨hs, hz⟩ := h
  refine ⟨?_, fun cell hc => ?_⟩
  · induction m with
    | nil => simp only [Memory.set]; split <;> simp
    | cons hd rest ih =>
      obtain ⟨k, x⟩ := hd
      obtain ⟨hk, hr⟩ := List.pairwise_cons.1 hs
      have hz' : ∀ cell ∈ rest, cell.2 ≠ 0 := fun c hc => hz c (by simp [hc])
      simp only [Memory.set]
      split
      · split
        · exact hs
        · refine List.pairwise_cons.2 ⟨fun c hc => ?_, hs⟩
          rcases List.mem_cons.1 hc with rfl | hc
          · assumption
          · have := hk c hc; simp only at this ⊢; omega
      · split
        · split
          · exact hr
          · refine List.pairwise_cons.2 ⟨fun c hc => ?_, hr⟩
            have := hk c hc; simp only at this ⊢; omega
        · refine List.pairwise_cons.2 ⟨fun c hc => ?_, ih hr hz'⟩
          rcases Memory.mem_set hc with hc | ⟨rfl, _⟩
          · exact hk c hc
          · simp only; omega
  · rcases Memory.mem_set hc with hc | ⟨rfl, hv⟩
    · exact hz cell hc
    · exact hv

/-- The byte written is read back. -/
theorem Memory.get_set_same {m : Memory} (h : m.wf) (a : Nat) (v : Byte) :
    Memory.get (Memory.set m a v) a = v := by
  obtain ⟨hs, -⟩ := h
  induction m with
  | nil => simp only [Memory.set]; split <;> simp_all [Memory.get]
  | cons hd rest ih =>
    obtain ⟨k, x⟩ := hd
    obtain ⟨hk, hr⟩ := List.pairwise_cons.1 hs
    have above : ∀ b, b ≤ k → ∀ cell ∈ rest, b < cell.1 := fun b hb c hc => by
      have := hk c hc; simp only at this; omega
    simp only [Memory.set]
    split
    · split
      · rename_i hlt hv
        have hne : k ≠ a := by omega
        simp [Memory.get, hne, hv, Memory.get_of_lt (above a (by omega))]
      · simp [Memory.get]
    · split
      · split
        · rename_i he hv
          simp [hv, Memory.get_of_lt (above a (by omega))]
        · simp [Memory.get]
      · rename_i h1 h2
        have hne : k ≠ a := by omega
        simp [Memory.get, hne, ih hr]

/-- A write leaves every other address. -/
theorem Memory.get_set_other (m : Memory) {a b : Nat} (hne : b ≠ a) (v : Byte) :
    Memory.get (Memory.set m a v) b = Memory.get m b := by
  induction m with
  | nil => simp only [Memory.set]; split <;> simp [Memory.get, Ne.symm hne]
  | cons hd rest ih =>
    obtain ⟨k, x⟩ := hd
    simp only [Memory.set]
    split
    · split
      · rfl
      · simp [Memory.get, Ne.symm hne]
    · split
      · rename_i he
        subst he
        split <;> simp [Memory.get, Ne.symm hne]
      · simp only [Memory.get]; rw [ih]

/-- The zero fill of reset keeps the canonical form. -/
theorem Memory.keepRom_wf {m : Memory} (h : m.wf) : m.keepRom.wf :=
  ⟨h.1.filter _, fun cell hc => h.2 cell (List.mem_filter.1 hc).1⟩

/-- The entries of an image lie at its addresses. -/
theorem imageCells_bounds {k : Nat} {image : List Byte} {cell : Host.Cell} (h : cell ∈ imageCells k image) :
    k ≤ cell.1 ∧ cell.1 < k + image.length ∧ cell.2 ≠ 0 := by
  induction image generalizing k with
  | nil => simp [imageCells] at h
  | cons v rest ih =>
    simp only [imageCells] at h
    simp only [List.length_cons]
    split at h
    · obtain ⟨h1, h2, h3⟩ := ih h
      exact ⟨by omega, by omega, h3⟩
    · rcases List.mem_cons.1 h with rfl | h
      · exact ⟨le_refl k, by simp only; omega, ‹_›⟩
      · obtain ⟨h1, h2, h3⟩ := ih h
        exact ⟨by omega, by omega, h3⟩

/-- A ROM image is placed in canonical form. -/
theorem imageCells_wf (k : Nat) (image : List Byte) : (imageCells k image).wf := by
  refine ⟨?_, fun cell hc => (imageCells_bounds hc).2.2⟩
  induction image generalizing k with
  | nil => simp [imageCells]
  | cons v rest ih =>
    simp only [imageCells]
    split
    · exact ih (k + 1)
    · refine List.pairwise_cons.2 ⟨fun c hc => ?_, ih (k + 1)⟩
      have := (imageCells_bounds hc).1; simp only; omega

/-- The byte of a placed image at an address of it. -/
theorem imageCells_get {k i : Nat} {image : List Byte} (h : i < image.length) :
    Memory.get (imageCells k image) (k + i) = image[i] := by
  induction image generalizing k i with
  | nil => simp at h
  | cons v rest ih =>
    cases i with
    | zero =>
      simp only [imageCells]
      split
      · rw [Memory.get_of_lt fun c hc => by have := (imageCells_bounds hc).1; omega]
        simp_all
      · simp [Memory.get]
    | succ i =>
      have hi : i < rest.length := by simpa using h
      have := ih (k := k + 1) hi
      have e : k + 1 + i = k + (i + 1) := by omega
      rw [e] at this
      simp only [imageCells]
      split
      · simpa using this
      · have hne : k ≠ k + (i + 1) := by omega
        simp only [Memory.get, if_neg hne, List.getElem_cons_succ]
        exact this

end Sys2Proof.Machine
end

