-- ==== Sys2Proof/Laws/State.lean ====
section
/-! SUPPORT. One lemma per field per update of the state, so that no later proof unfolds a record update. -/

namespace Sys2Proof.Machine

/-! ### `record` -/

@[simp] theorem record_a (s : State) (ev : AccessEvent) : (s.record ev).a = s.a := rfl
@[simp] theorem record_f (s : State) (ev : AccessEvent) : (s.record ev).f = s.f := rfl
@[simp] theorem record_b (s : State) (ev : AccessEvent) : (s.record ev).b = s.b := rfl
@[simp] theorem record_c (s : State) (ev : AccessEvent) : (s.record ev).c = s.c := rfl
@[simp] theorem record_d (s : State) (ev : AccessEvent) : (s.record ev).d = s.d := rfl
@[simp] theorem record_e (s : State) (ev : AccessEvent) : (s.record ev).e = s.e := rfl
@[simp] theorem record_h (s : State) (ev : AccessEvent) : (s.record ev).h = s.h := rfl
@[simp] theorem record_l (s : State) (ev : AccessEvent) : (s.record ev).l = s.l := rfl
@[simp] theorem record_sp (s : State) (ev : AccessEvent) : (s.record ev).sp = s.sp := rfl
@[simp] theorem record_pc (s : State) (ev : AccessEvent) : (s.record ev).pc = s.pc := rfl
@[simp] theorem record_redirect (s : State) (ev : AccessEvent) : (s.record ev).redirect = s.redirect := rfl
@[simp] theorem record_ime (s : State) (ev : AccessEvent) : (s.record ev).ime = s.ime := rfl
@[simp] theorem record_halted (s : State) (ev : AccessEvent) : (s.record ev).halted = s.halted := rfl
@[simp] theorem record_invalid (s : State) (ev : AccessEvent) : (s.record ev).invalid = s.invalid := rfl
@[simp] theorem record_unimpl (s : State) (ev : AccessEvent) : (s.record ev).unimpl = s.unimpl := rfl
@[simp] theorem record_icount (s : State) (ev : AccessEvent) : (s.record ev).icount = s.icount := rfl
@[simp] theorem record_snap (s : State) (ev : AccessEvent) : (s.record ev).snap = s.snap := rfl
@[simp] theorem record_mem (s : State) (ev : AccessEvent) : (s.record ev).mem = s.mem := rfl
@[simp] theorem record_ie (s : State) (ev : AccessEvent) : (s.record ev).ie = s.ie := rfl
@[simp] theorem record_iflag (s : State) (ev : AccessEvent) : (s.record ev).iflag = s.iflag := rfl
@[simp] theorem record_history (s : State) (ev : AccessEvent) : (s.record ev).history = ev :: s.history := rfl
@[simp] theorem record_draws (s : State) (ev : AccessEvent) : (s.record ev).draws = s.draws := rfl

/-! ### `signalInvalid` -/

@[simp] theorem signalInvalid_a (s : State) : s.signalInvalid.a = s.a := rfl
@[simp] theorem signalInvalid_f (s : State) : s.signalInvalid.f = s.f := rfl
@[simp] theorem signalInvalid_b (s : State) : s.signalInvalid.b = s.b := rfl
@[simp] theorem signalInvalid_c (s : State) : s.signalInvalid.c = s.c := rfl
@[simp] theorem signalInvalid_d (s : State) : s.signalInvalid.d = s.d := rfl
@[simp] theorem signalInvalid_e (s : State) : s.signalInvalid.e = s.e := rfl
@[simp] theorem signalInvalid_h (s : State) : s.signalInvalid.h = s.h := rfl
@[simp] theorem signalInvalid_l (s : State) : s.signalInvalid.l = s.l := rfl
@[simp] theorem signalInvalid_sp (s : State) : s.signalInvalid.sp = s.sp := rfl
@[simp] theorem signalInvalid_pc (s : State) : s.signalInvalid.pc = s.pc := rfl
@[simp] theorem signalInvalid_redirect (s : State) : s.signalInvalid.redirect = s.redirect := rfl
@[simp] theorem signalInvalid_ime (s : State) : s.signalInvalid.ime = s.ime := rfl
@[simp] theorem signalInvalid_halted (s : State) : s.signalInvalid.halted = s.halted := rfl
@[simp] theorem signalInvalid_invalid (s : State) : s.signalInvalid.invalid = true := rfl
@[simp] theorem signalInvalid_unimpl (s : State) : s.signalInvalid.unimpl = s.unimpl := rfl
@[simp] theorem signalInvalid_icount (s : State) : s.signalInvalid.icount = s.icount := rfl
@[simp] theorem signalInvalid_snap (s : State) : s.signalInvalid.snap = s.snap := rfl
@[simp] theorem signalInvalid_mem (s : State) : s.signalInvalid.mem = s.mem := rfl
@[simp] theorem signalInvalid_ie (s : State) : s.signalInvalid.ie = s.ie := rfl
@[simp] theorem signalInvalid_iflag (s : State) : s.signalInvalid.iflag = s.iflag := rfl
@[simp] theorem signalInvalid_history (s : State) : s.signalInvalid.history = s.history := rfl
@[simp] theorem signalInvalid_draws (s : State) : s.signalInvalid.draws = s.draws := rfl

/-! ### `signalUnimpl` -/

@[simp] theorem signalUnimpl_a (s : State) : s.signalUnimpl.a = s.a := rfl
@[simp] theorem signalUnimpl_f (s : State) : s.signalUnimpl.f = s.f := rfl
@[simp] theorem signalUnimpl_b (s : State) : s.signalUnimpl.b = s.b := rfl
@[simp] theorem signalUnimpl_c (s : State) : s.signalUnimpl.c = s.c := rfl
@[simp] theorem signalUnimpl_d (s : State) : s.signalUnimpl.d = s.d := rfl
@[simp] theorem signalUnimpl_e (s : State) : s.signalUnimpl.e = s.e := rfl
@[simp] theorem signalUnimpl_h (s : State) : s.signalUnimpl.h = s.h := rfl
@[simp] theorem signalUnimpl_l (s : State) : s.signalUnimpl.l = s.l := rfl
@[simp] theorem signalUnimpl_sp (s : State) : s.signalUnimpl.sp = s.sp := rfl
@[simp] theorem signalUnimpl_pc (s : State) : s.signalUnimpl.pc = s.pc := rfl
@[simp] theorem signalUnimpl_redirect (s : State) : s.signalUnimpl.redirect = s.redirect := rfl
@[simp] theorem signalUnimpl_ime (s : State) : s.signalUnimpl.ime = s.ime := rfl
@[simp] theorem signalUnimpl_halted (s : State) : s.signalUnimpl.halted = s.halted := rfl
@[simp] theorem signalUnimpl_invalid (s : State) : s.signalUnimpl.invalid = s.invalid := rfl
@[simp] theorem signalUnimpl_unimpl (s : State) : s.signalUnimpl.unimpl = true := rfl
@[simp] theorem signalUnimpl_icount (s : State) : s.signalUnimpl.icount = s.icount := rfl
@[simp] theorem signalUnimpl_snap (s : State) : s.signalUnimpl.snap = s.snap := rfl
@[simp] theorem signalUnimpl_mem (s : State) : s.signalUnimpl.mem = s.mem := rfl
@[simp] theorem signalUnimpl_ie (s : State) : s.signalUnimpl.ie = s.ie := rfl
@[simp] theorem signalUnimpl_iflag (s : State) : s.signalUnimpl.iflag = s.iflag := rfl
@[simp] theorem signalUnimpl_history (s : State) : s.signalUnimpl.history = s.history := rfl
@[simp] theorem signalUnimpl_draws (s : State) : s.signalUnimpl.draws = s.draws := rfl

/-! ### `setFlags` -/

@[simp] theorem setFlags_a (s : State) (z n h c : Bool) : (s.setFlags z n h c).a = s.a := rfl
@[simp] theorem setFlags_f (s : State) (z n h c : Bool) : (s.setFlags z n h c).f = packFlags z n h c := rfl
@[simp] theorem setFlags_b (s : State) (z n h c : Bool) : (s.setFlags z n h c).b = s.b := rfl
@[simp] theorem setFlags_c (s : State) (z n h c : Bool) : (s.setFlags z n h c).c = s.c := rfl
@[simp] theorem setFlags_d (s : State) (z n h c : Bool) : (s.setFlags z n h c).d = s.d := rfl
@[simp] theorem setFlags_e (s : State) (z n h c : Bool) : (s.setFlags z n h c).e = s.e := rfl
@[simp] theorem setFlags_h (s : State) (z n h c : Bool) : (s.setFlags z n h c).h = s.h := rfl
@[simp] theorem setFlags_l (s : State) (z n h c : Bool) : (s.setFlags z n h c).l = s.l := rfl
@[simp] theorem setFlags_sp (s : State) (z n h c : Bool) : (s.setFlags z n h c).sp = s.sp := rfl
@[simp] theorem setFlags_pc (s : State) (z n h c : Bool) : (s.setFlags z n h c).pc = s.pc := rfl
@[simp] theorem setFlags_redirect (s : State) (z n h c : Bool) : (s.setFlags z n h c).redirect = s.redirect := rfl
@[simp] theorem setFlags_ime (s : State) (z n h c : Bool) : (s.setFlags z n h c).ime = s.ime := rfl
@[simp] theorem setFlags_halted (s : State) (z n h c : Bool) : (s.setFlags z n h c).halted = s.halted := rfl
@[simp] theorem setFlags_invalid (s : State) (z n h c : Bool) : (s.setFlags z n h c).invalid = s.invalid := rfl
@[simp] theorem setFlags_unimpl (s : State) (z n h c : Bool) : (s.setFlags z n h c).unimpl = s.unimpl := rfl
@[simp] theorem setFlags_icount (s : State) (z n h c : Bool) : (s.setFlags z n h c).icount = s.icount := rfl
@[simp] theorem setFlags_snap (s : State) (z n h c : Bool) : (s.setFlags z n h c).snap = s.snap := rfl
@[simp] theorem setFlags_mem (s : State) (z n h c : Bool) : (s.setFlags z n h c).mem = s.mem := rfl
@[simp] theorem setFlags_ie (s : State) (z n h c : Bool) : (s.setFlags z n h c).ie = s.ie := rfl
@[simp] theorem setFlags_iflag (s : State) (z n h c : Bool) : (s.setFlags z n h c).iflag = s.iflag := rfl
@[simp] theorem setFlags_history (s : State) (z n h c : Bool) : (s.setFlags z n h c).history = s.history := rfl
@[simp] theorem setFlags_draws (s : State) (z n h c : Bool) : (s.setFlags z n h c).draws = s.draws := rfl

/-! ### `jump` -/

@[simp] theorem jump_a (s : State) (t : Word) : (s.jump t).a = s.a := rfl
@[simp] theorem jump_f (s : State) (t : Word) : (s.jump t).f = s.f := rfl
@[simp] theorem jump_b (s : State) (t : Word) : (s.jump t).b = s.b := rfl
@[simp] theorem jump_c (s : State) (t : Word) : (s.jump t).c = s.c := rfl
@[simp] theorem jump_d (s : State) (t : Word) : (s.jump t).d = s.d := rfl
@[simp] theorem jump_e (s : State) (t : Word) : (s.jump t).e = s.e := rfl
@[simp] theorem jump_h (s : State) (t : Word) : (s.jump t).h = s.h := rfl
@[simp] theorem jump_l (s : State) (t : Word) : (s.jump t).l = s.l := rfl
@[simp] theorem jump_sp (s : State) (t : Word) : (s.jump t).sp = s.sp := rfl
@[simp] theorem jump_pc (s : State) (t : Word) : (s.jump t).pc = t := rfl
@[simp] theorem jump_redirect (s : State) (t : Word) : (s.jump t).redirect = true := rfl
@[simp] theorem jump_ime (s : State) (t : Word) : (s.jump t).ime = s.ime := rfl
@[simp] theorem jump_halted (s : State) (t : Word) : (s.jump t).halted = s.halted := rfl
@[simp] theorem jump_invalid (s : State) (t : Word) : (s.jump t).invalid = s.invalid := rfl
@[simp] theorem jump_unimpl (s : State) (t : Word) : (s.jump t).unimpl = s.unimpl := rfl
@[simp] theorem jump_icount (s : State) (t : Word) : (s.jump t).icount = s.icount := rfl
@[simp] theorem jump_snap (s : State) (t : Word) : (s.jump t).snap = s.snap := rfl
@[simp] theorem jump_mem (s : State) (t : Word) : (s.jump t).mem = s.mem := rfl
@[simp] theorem jump_ie (s : State) (t : Word) : (s.jump t).ie = s.ie := rfl
@[simp] theorem jump_iflag (s : State) (t : Word) : (s.jump t).iflag = s.iflag := rfl
@[simp] theorem jump_history (s : State) (t : Word) : (s.jump t).history = s.history := rfl
@[simp] theorem jump_draws (s : State) (t : Word) : (s.jump t).draws = s.draws := rfl

/-! ### `setAF` -/

@[simp] theorem setAF_a (s : State) (v : Word) : (s.setAF v).a = hiByte v := rfl
@[simp] theorem setAF_f (s : State) (v : Word) : (s.setAF v).f = maskFlags (loByte v) := rfl
@[simp] theorem setAF_b (s : State) (v : Word) : (s.setAF v).b = s.b := rfl
@[simp] theorem setAF_c (s : State) (v : Word) : (s.setAF v).c = s.c := rfl
@[simp] theorem setAF_d (s : State) (v : Word) : (s.setAF v).d = s.d := rfl
@[simp] theorem setAF_e (s : State) (v : Word) : (s.setAF v).e = s.e := rfl
@[simp] theorem setAF_h (s : State) (v : Word) : (s.setAF v).h = s.h := rfl
@[simp] theorem setAF_l (s : State) (v : Word) : (s.setAF v).l = s.l := rfl
@[simp] theorem setAF_sp (s : State) (v : Word) : (s.setAF v).sp = s.sp := rfl
@[simp] theorem setAF_pc (s : State) (v : Word) : (s.setAF v).pc = s.pc := rfl
@[simp] theorem setAF_redirect (s : State) (v : Word) : (s.setAF v).redirect = s.redirect := rfl
@[simp] theorem setAF_ime (s : State) (v : Word) : (s.setAF v).ime = s.ime := rfl
@[simp] theorem setAF_halted (s : State) (v : Word) : (s.setAF v).halted = s.halted := rfl
@[simp] theorem setAF_invalid (s : State) (v : Word) : (s.setAF v).invalid = s.invalid := rfl
@[simp] theorem setAF_unimpl (s : State) (v : Word) : (s.setAF v).unimpl = s.unimpl := rfl
@[simp] theorem setAF_icount (s : State) (v : Word) : (s.setAF v).icount = s.icount := rfl
@[simp] theorem setAF_snap (s : State) (v : Word) : (s.setAF v).snap = s.snap := rfl
@[simp] theorem setAF_mem (s : State) (v : Word) : (s.setAF v).mem = s.mem := rfl
@[simp] theorem setAF_ie (s : State) (v : Word) : (s.setAF v).ie = s.ie := rfl
@[simp] theorem setAF_iflag (s : State) (v : Word) : (s.setAF v).iflag = s.iflag := rfl
@[simp] theorem setAF_history (s : State) (v : Word) : (s.setAF v).history = s.history := rfl
@[simp] theorem setAF_draws (s : State) (v : Word) : (s.setAF v).draws = s.draws := rfl

/-! ### `setBC` -/

@[simp] theorem setBC_a (s : State) (v : Word) : (s.setBC v).a = s.a := rfl
@[simp] theorem setBC_f (s : State) (v : Word) : (s.setBC v).f = s.f := rfl
@[simp] theorem setBC_b (s : State) (v : Word) : (s.setBC v).b = hiByte v := rfl
@[simp] theorem setBC_c (s : State) (v : Word) : (s.setBC v).c = loByte v := rfl
@[simp] theorem setBC_d (s : State) (v : Word) : (s.setBC v).d = s.d := rfl
@[simp] theorem setBC_e (s : State) (v : Word) : (s.setBC v).e = s.e := rfl
@[simp] theorem setBC_h (s : State) (v : Word) : (s.setBC v).h = s.h := rfl
@[simp] theorem setBC_l (s : State) (v : Word) : (s.setBC v).l = s.l := rfl
@[simp] theorem setBC_sp (s : State) (v : Word) : (s.setBC v).sp = s.sp := rfl
@[simp] theorem setBC_pc (s : State) (v : Word) : (s.setBC v).pc = s.pc := rfl
@[simp] theorem setBC_redirect (s : State) (v : Word) : (s.setBC v).redirect = s.redirect := rfl
@[simp] theorem setBC_ime (s : State) (v : Word) : (s.setBC v).ime = s.ime := rfl
@[simp] theorem setBC_halted (s : State) (v : Word) : (s.setBC v).halted = s.halted := rfl
@[simp] theorem setBC_invalid (s : State) (v : Word) : (s.setBC v).invalid = s.invalid := rfl
@[simp] theorem setBC_unimpl (s : State) (v : Word) : (s.setBC v).unimpl = s.unimpl := rfl
@[simp] theorem setBC_icount (s : State) (v : Word) : (s.setBC v).icount = s.icount := rfl
@[simp] theorem setBC_snap (s : State) (v : Word) : (s.setBC v).snap = s.snap := rfl
@[simp] theorem setBC_mem (s : State) (v : Word) : (s.setBC v).mem = s.mem := rfl
@[simp] theorem setBC_ie (s : State) (v : Word) : (s.setBC v).ie = s.ie := rfl
@[simp] theorem setBC_iflag (s : State) (v : Word) : (s.setBC v).iflag = s.iflag := rfl
@[simp] theorem setBC_history (s : State) (v : Word) : (s.setBC v).history = s.history := rfl
@[simp] theorem setBC_draws (s : State) (v : Word) : (s.setBC v).draws = s.draws := rfl

/-! ### `setDE` -/

@[simp] theorem setDE_a (s : State) (v : Word) : (s.setDE v).a = s.a := rfl
@[simp] theorem setDE_f (s : State) (v : Word) : (s.setDE v).f = s.f := rfl
@[simp] theorem setDE_b (s : State) (v : Word) : (s.setDE v).b = s.b := rfl
@[simp] theorem setDE_c (s : State) (v : Word) : (s.setDE v).c = s.c := rfl
@[simp] theorem setDE_d (s : State) (v : Word) : (s.setDE v).d = hiByte v := rfl
@[simp] theorem setDE_e (s : State) (v : Word) : (s.setDE v).e = loByte v := rfl
@[simp] theorem setDE_h (s : State) (v : Word) : (s.setDE v).h = s.h := rfl
@[simp] theorem setDE_l (s : State) (v : Word) : (s.setDE v).l = s.l := rfl
@[simp] theorem setDE_sp (s : State) (v : Word) : (s.setDE v).sp = s.sp := rfl
@[simp] theorem setDE_pc (s : State) (v : Word) : (s.setDE v).pc = s.pc := rfl
@[simp] theorem setDE_redirect (s : State) (v : Word) : (s.setDE v).redirect = s.redirect := rfl
@[simp] theorem setDE_ime (s : State) (v : Word) : (s.setDE v).ime = s.ime := rfl
@[simp] theorem setDE_halted (s : State) (v : Word) : (s.setDE v).halted = s.halted := rfl
@[simp] theorem setDE_invalid (s : State) (v : Word) : (s.setDE v).invalid = s.invalid := rfl
@[simp] theorem setDE_unimpl (s : State) (v : Word) : (s.setDE v).unimpl = s.unimpl := rfl
@[simp] theorem setDE_icount (s : State) (v : Word) : (s.setDE v).icount = s.icount := rfl
@[simp] theorem setDE_snap (s : State) (v : Word) : (s.setDE v).snap = s.snap := rfl
@[simp] theorem setDE_mem (s : State) (v : Word) : (s.setDE v).mem = s.mem := rfl
@[simp] theorem setDE_ie (s : State) (v : Word) : (s.setDE v).ie = s.ie := rfl
@[simp] theorem setDE_iflag (s : State) (v : Word) : (s.setDE v).iflag = s.iflag := rfl
@[simp] theorem setDE_history (s : State) (v : Word) : (s.setDE v).history = s.history := rfl
@[simp] theorem setDE_draws (s : State) (v : Word) : (s.setDE v).draws = s.draws := rfl

/-! ### `setHL` -/

@[simp] theorem setHL_a (s : State) (v : Word) : (s.setHL v).a = s.a := rfl
@[simp] theorem setHL_f (s : State) (v : Word) : (s.setHL v).f = s.f := rfl
@[simp] theorem setHL_b (s : State) (v : Word) : (s.setHL v).b = s.b := rfl
@[simp] theorem setHL_c (s : State) (v : Word) : (s.setHL v).c = s.c := rfl
@[simp] theorem setHL_d (s : State) (v : Word) : (s.setHL v).d = s.d := rfl
@[simp] theorem setHL_e (s : State) (v : Word) : (s.setHL v).e = s.e := rfl
@[simp] theorem setHL_h (s : State) (v : Word) : (s.setHL v).h = hiByte v := rfl
@[simp] theorem setHL_l (s : State) (v : Word) : (s.setHL v).l = loByte v := rfl
@[simp] theorem setHL_sp (s : State) (v : Word) : (s.setHL v).sp = s.sp := rfl
@[simp] theorem setHL_pc (s : State) (v : Word) : (s.setHL v).pc = s.pc := rfl
@[simp] theorem setHL_redirect (s : State) (v : Word) : (s.setHL v).redirect = s.redirect := rfl
@[simp] theorem setHL_ime (s : State) (v : Word) : (s.setHL v).ime = s.ime := rfl
@[simp] theorem setHL_halted (s : State) (v : Word) : (s.setHL v).halted = s.halted := rfl
@[simp] theorem setHL_invalid (s : State) (v : Word) : (s.setHL v).invalid = s.invalid := rfl
@[simp] theorem setHL_unimpl (s : State) (v : Word) : (s.setHL v).unimpl = s.unimpl := rfl
@[simp] theorem setHL_icount (s : State) (v : Word) : (s.setHL v).icount = s.icount := rfl
@[simp] theorem setHL_snap (s : State) (v : Word) : (s.setHL v).snap = s.snap := rfl
@[simp] theorem setHL_mem (s : State) (v : Word) : (s.setHL v).mem = s.mem := rfl
@[simp] theorem setHL_ie (s : State) (v : Word) : (s.setHL v).ie = s.ie := rfl
@[simp] theorem setHL_iflag (s : State) (v : Word) : (s.setHL v).iflag = s.iflag := rfl
@[simp] theorem setHL_history (s : State) (v : Word) : (s.setHL v).history = s.history := rfl
@[simp] theorem setHL_draws (s : State) (v : Word) : (s.setHL v).draws = s.draws := rfl

/-! ### `setIme` -/

@[simp] theorem setIme_a (s : State) (v : Bool) : (s.setIme v).a = s.a := rfl
@[simp] theorem setIme_f (s : State) (v : Bool) : (s.setIme v).f = s.f := rfl
@[simp] theorem setIme_b (s : State) (v : Bool) : (s.setIme v).b = s.b := rfl
@[simp] theorem setIme_c (s : State) (v : Bool) : (s.setIme v).c = s.c := rfl
@[simp] theorem setIme_d (s : State) (v : Bool) : (s.setIme v).d = s.d := rfl
@[simp] theorem setIme_e (s : State) (v : Bool) : (s.setIme v).e = s.e := rfl
@[simp] theorem setIme_h (s : State) (v : Bool) : (s.setIme v).h = s.h := rfl
@[simp] theorem setIme_l (s : State) (v : Bool) : (s.setIme v).l = s.l := rfl
@[simp] theorem setIme_sp (s : State) (v : Bool) : (s.setIme v).sp = s.sp := rfl
@[simp] theorem setIme_pc (s : State) (v : Bool) : (s.setIme v).pc = s.pc := rfl
@[simp] theorem setIme_redirect (s : State) (v : Bool) : (s.setIme v).redirect = s.redirect := rfl
@[simp] theorem setIme_ime (s : State) (v : Bool) : (s.setIme v).ime = v := rfl
@[simp] theorem setIme_halted (s : State) (v : Bool) : (s.setIme v).halted = s.halted := rfl
@[simp] theorem setIme_invalid (s : State) (v : Bool) : (s.setIme v).invalid = s.invalid := rfl
@[simp] theorem setIme_unimpl (s : State) (v : Bool) : (s.setIme v).unimpl = s.unimpl := rfl
@[simp] theorem setIme_icount (s : State) (v : Bool) : (s.setIme v).icount = s.icount := rfl
@[simp] theorem setIme_snap (s : State) (v : Bool) : (s.setIme v).snap = s.snap := rfl
@[simp] theorem setIme_mem (s : State) (v : Bool) : (s.setIme v).mem = s.mem := rfl
@[simp] theorem setIme_ie (s : State) (v : Bool) : (s.setIme v).ie = s.ie := rfl
@[simp] theorem setIme_iflag (s : State) (v : Bool) : (s.setIme v).iflag = s.iflag := rfl
@[simp] theorem setIme_history (s : State) (v : Bool) : (s.setIme v).history = s.history := rfl
@[simp] theorem setIme_draws (s : State) (v : Bool) : (s.setIme v).draws = s.draws := rfl

/-! ### `lowPower` -/

@[simp] theorem lowPower_a (s : State) : s.lowPower.a = s.a := rfl
@[simp] theorem lowPower_f (s : State) : s.lowPower.f = s.f := rfl
@[simp] theorem lowPower_b (s : State) : s.lowPower.b = s.b := rfl
@[simp] theorem lowPower_c (s : State) : s.lowPower.c = s.c := rfl
@[simp] theorem lowPower_d (s : State) : s.lowPower.d = s.d := rfl
@[simp] theorem lowPower_e (s : State) : s.lowPower.e = s.e := rfl
@[simp] theorem lowPower_h (s : State) : s.lowPower.h = s.h := rfl
@[simp] theorem lowPower_l (s : State) : s.lowPower.l = s.l := rfl
@[simp] theorem lowPower_sp (s : State) : s.lowPower.sp = s.sp := rfl
@[simp] theorem lowPower_pc (s : State) : s.lowPower.pc = s.pc := rfl
@[simp] theorem lowPower_redirect (s : State) : s.lowPower.redirect = s.redirect := rfl
@[simp] theorem lowPower_ime (s : State) : s.lowPower.ime = s.ime := rfl
@[simp] theorem lowPower_halted (s : State) : s.lowPower.halted = true := rfl
@[simp] theorem lowPower_invalid (s : State) : s.lowPower.invalid = s.invalid := rfl
@[simp] theorem lowPower_unimpl (s : State) : s.lowPower.unimpl = s.unimpl := rfl
@[simp] theorem lowPower_icount (s : State) : s.lowPower.icount = s.icount := rfl
@[simp] theorem lowPower_snap (s : State) : s.lowPower.snap = s.snap := rfl
@[simp] theorem lowPower_mem (s : State) : s.lowPower.mem = s.mem := rfl
@[simp] theorem lowPower_ie (s : State) : s.lowPower.ie = s.ie := rfl
@[simp] theorem lowPower_iflag (s : State) : s.lowPower.iflag = s.iflag := rfl
@[simp] theorem lowPower_history (s : State) : s.lowPower.history = s.history := rfl
@[simp] theorem lowPower_draws (s : State) : s.lowPower.draws = s.draws := rfl

/-! ### `capture` -/

@[simp] theorem capture_a (s : State) : s.capture.a = s.a := rfl
@[simp] theorem capture_f (s : State) : s.capture.f = s.f := rfl
@[simp] theorem capture_b (s : State) : s.capture.b = s.b := rfl
@[simp] theorem capture_c (s : State) : s.capture.c = s.c := rfl
@[simp] theorem capture_d (s : State) : s.capture.d = s.d := rfl
@[simp] theorem capture_e (s : State) : s.capture.e = s.e := rfl
@[simp] theorem capture_h (s : State) : s.capture.h = s.h := rfl
@[simp] theorem capture_l (s : State) : s.capture.l = s.l := rfl
@[simp] theorem capture_sp (s : State) : s.capture.sp = s.sp := rfl
@[simp] theorem capture_pc (s : State) : s.capture.pc = s.pc := rfl
@[simp] theorem capture_redirect (s : State) : s.capture.redirect = s.redirect := rfl
@[simp] theorem capture_ime (s : State) : s.capture.ime = s.ime := rfl
@[simp] theorem capture_halted (s : State) : s.capture.halted = s.halted := rfl
@[simp] theorem capture_invalid (s : State) : s.capture.invalid = s.invalid := rfl
@[simp] theorem capture_unimpl (s : State) : s.capture.unimpl = s.unimpl := rfl
@[simp] theorem capture_icount (s : State) : s.capture.icount = s.icount := rfl
@[simp] theorem capture_snap (s : State) : s.capture.snap = s.snapshot := rfl
@[simp] theorem capture_mem (s : State) : s.capture.mem = s.mem := rfl
@[simp] theorem capture_ie (s : State) : s.capture.ie = s.ie := rfl
@[simp] theorem capture_iflag (s : State) : s.capture.iflag = s.iflag := rfl
@[simp] theorem capture_history (s : State) : s.capture.history = s.history := rfl
@[simp] theorem capture_draws (s : State) : s.capture.draws = s.draws := rfl

/-! ### `count` -/

@[simp] theorem count_a (s : State) : s.count.a = s.a := rfl
@[simp] theorem count_f (s : State) : s.count.f = s.f := rfl
@[simp] theorem count_b (s : State) : s.count.b = s.b := rfl
@[simp] theorem count_c (s : State) : s.count.c = s.c := rfl
@[simp] theorem count_d (s : State) : s.count.d = s.d := rfl
@[simp] theorem count_e (s : State) : s.count.e = s.e := rfl
@[simp] theorem count_h (s : State) : s.count.h = s.h := rfl
@[simp] theorem count_l (s : State) : s.count.l = s.l := rfl
@[simp] theorem count_sp (s : State) : s.count.sp = s.sp := rfl
@[simp] theorem count_pc (s : State) : s.count.pc = s.pc := rfl
@[simp] theorem count_redirect (s : State) : s.count.redirect = s.redirect := rfl
@[simp] theorem count_ime (s : State) : s.count.ime = s.ime := rfl
@[simp] theorem count_halted (s : State) : s.count.halted = s.halted := rfl
@[simp] theorem count_invalid (s : State) : s.count.invalid = s.invalid := rfl
@[simp] theorem count_unimpl (s : State) : s.count.unimpl = s.unimpl := rfl
@[simp] theorem count_icount (s : State) : s.count.icount = s.icount + 1 := rfl
@[simp] theorem count_snap (s : State) : s.count.snap = s.snap := rfl
@[simp] theorem count_mem (s : State) : s.count.mem = s.mem := rfl
@[simp] theorem count_ie (s : State) : s.count.ie = s.ie := rfl
@[simp] theorem count_iflag (s : State) : s.count.iflag = s.iflag := rfl
@[simp] theorem count_history (s : State) : s.count.history = s.history := rfl
@[simp] theorem count_draws (s : State) : s.count.draws = s.draws := rfl

/-! ### `clearInvalid` -/

@[simp] theorem clearInvalid_a (s : State) : s.clearInvalid.a = s.a := rfl
@[simp] theorem clearInvalid_f (s : State) : s.clearInvalid.f = s.f := rfl
@[simp] theorem clearInvalid_b (s : State) : s.clearInvalid.b = s.b := rfl
@[simp] theorem clearInvalid_c (s : State) : s.clearInvalid.c = s.c := rfl
@[simp] theorem clearInvalid_d (s : State) : s.clearInvalid.d = s.d := rfl
@[simp] theorem clearInvalid_e (s : State) : s.clearInvalid.e = s.e := rfl
@[simp] theorem clearInvalid_h (s : State) : s.clearInvalid.h = s.h := rfl
@[simp] theorem clearInvalid_l (s : State) : s.clearInvalid.l = s.l := rfl
@[simp] theorem clearInvalid_sp (s : State) : s.clearInvalid.sp = s.sp := rfl
@[simp] theorem clearInvalid_pc (s : State) : s.clearInvalid.pc = s.pc := rfl
@[simp] theorem clearInvalid_redirect (s : State) : s.clearInvalid.redirect = s.redirect := rfl
@[simp] theorem clearInvalid_ime (s : State) : s.clearInvalid.ime = s.ime := rfl
@[simp] theorem clearInvalid_halted (s : State) : s.clearInvalid.halted = s.halted := rfl
@[simp] theorem clearInvalid_invalid (s : State) : s.clearInvalid.invalid = false := rfl
@[simp] theorem clearInvalid_unimpl (s : State) : s.clearInvalid.unimpl = s.unimpl := rfl
@[simp] theorem clearInvalid_icount (s : State) : s.clearInvalid.icount = s.icount := rfl
@[simp] theorem clearInvalid_snap (s : State) : s.clearInvalid.snap = s.snap := rfl
@[simp] theorem clearInvalid_mem (s : State) : s.clearInvalid.mem = s.mem := rfl
@[simp] theorem clearInvalid_ie (s : State) : s.clearInvalid.ie = s.ie := rfl
@[simp] theorem clearInvalid_iflag (s : State) : s.clearInvalid.iflag = s.iflag := rfl
@[simp] theorem clearInvalid_history (s : State) : s.clearInvalid.history = s.history := rfl
@[simp] theorem clearInvalid_draws (s : State) : s.clearInvalid.draws = s.draws := rfl

/-! ### `clearUnimpl` -/

@[simp] theorem clearUnimpl_a (s : State) : s.clearUnimpl.a = s.a := rfl
@[simp] theorem clearUnimpl_f (s : State) : s.clearUnimpl.f = s.f := rfl
@[simp] theorem clearUnimpl_b (s : State) : s.clearUnimpl.b = s.b := rfl
@[simp] theorem clearUnimpl_c (s : State) : s.clearUnimpl.c = s.c := rfl
@[simp] theorem clearUnimpl_d (s : State) : s.clearUnimpl.d = s.d := rfl
@[simp] theorem clearUnimpl_e (s : State) : s.clearUnimpl.e = s.e := rfl
@[simp] theorem clearUnimpl_h (s : State) : s.clearUnimpl.h = s.h := rfl
@[simp] theorem clearUnimpl_l (s : State) : s.clearUnimpl.l = s.l := rfl
@[simp] theorem clearUnimpl_sp (s : State) : s.clearUnimpl.sp = s.sp := rfl
@[simp] theorem clearUnimpl_pc (s : State) : s.clearUnimpl.pc = s.pc := rfl
@[simp] theorem clearUnimpl_redirect (s : State) : s.clearUnimpl.redirect = s.redirect := rfl
@[simp] theorem clearUnimpl_ime (s : State) : s.clearUnimpl.ime = s.ime := rfl
@[simp] theorem clearUnimpl_halted (s : State) : s.clearUnimpl.halted = s.halted := rfl
@[simp] theorem clearUnimpl_invalid (s : State) : s.clearUnimpl.invalid = s.invalid := rfl
@[simp] theorem clearUnimpl_unimpl (s : State) : s.clearUnimpl.unimpl = false := rfl
@[simp] theorem clearUnimpl_icount (s : State) : s.clearUnimpl.icount = s.icount := rfl
@[simp] theorem clearUnimpl_snap (s : State) : s.clearUnimpl.snap = s.snap := rfl
@[simp] theorem clearUnimpl_mem (s : State) : s.clearUnimpl.mem = s.mem := rfl
@[simp] theorem clearUnimpl_ie (s : State) : s.clearUnimpl.ie = s.ie := rfl
@[simp] theorem clearUnimpl_iflag (s : State) : s.clearUnimpl.iflag = s.iflag := rfl
@[simp] theorem clearUnimpl_history (s : State) : s.clearUnimpl.history = s.history := rfl
@[simp] theorem clearUnimpl_draws (s : State) : s.clearUnimpl.draws = s.draws := rfl

/-! ### `setReg8` and `setPair`: the fields that are no register of theirs -/

@[simp] theorem setReg8_f (s : State) (r : Reg8) (v : Byte) : (s.setReg8 r v).f = s.f := by
  cases r <;> rfl
@[simp] theorem setReg8_sp (s : State) (r : Reg8) (v : Byte) : (s.setReg8 r v).sp = s.sp := by
  cases r <;> rfl
@[simp] theorem setReg8_pc (s : State) (r : Reg8) (v : Byte) : (s.setReg8 r v).pc = s.pc := by
  cases r <;> rfl
@[simp] theorem setReg8_redirect (s : State) (r : Reg8) (v : Byte) : (s.setReg8 r v).redirect = s.redirect := by
  cases r <;> rfl
@[simp] theorem setReg8_ime (s : State) (r : Reg8) (v : Byte) : (s.setReg8 r v).ime = s.ime := by
  cases r <;> rfl
@[simp] theorem setReg8_halted (s : State) (r : Reg8) (v : Byte) : (s.setReg8 r v).halted = s.halted := by
  cases r <;> rfl
@[simp] theorem setReg8_invalid (s : State) (r : Reg8) (v : Byte) : (s.setReg8 r v).invalid = s.invalid := by
  cases r <;> rfl
@[simp] theorem setReg8_unimpl (s : State) (r : Reg8) (v : Byte) : (s.setReg8 r v).unimpl = s.unimpl := by
  cases r <;> rfl
@[simp] theorem setReg8_icount (s : State) (r : Reg8) (v : Byte) : (s.setReg8 r v).icount = s.icount := by
  cases r <;> rfl
@[simp] theorem setReg8_snap (s : State) (r : Reg8) (v : Byte) : (s.setReg8 r v).snap = s.snap := by
  cases r <;> rfl
@[simp] theorem setReg8_mem (s : State) (r : Reg8) (v : Byte) : (s.setReg8 r v).mem = s.mem := by
  cases r <;> rfl
@[simp] theorem setReg8_ie (s : State) (r : Reg8) (v : Byte) : (s.setReg8 r v).ie = s.ie := by
  cases r <;> rfl
@[simp] theorem setReg8_iflag (s : State) (r : Reg8) (v : Byte) : (s.setReg8 r v).iflag = s.iflag := by
  cases r <;> rfl
@[simp] theorem setReg8_history (s : State) (r : Reg8) (v : Byte) : (s.setReg8 r v).history = s.history := by
  cases r <;> rfl
@[simp] theorem setReg8_draws (s : State) (r : Reg8) (v : Byte) : (s.setReg8 r v).draws = s.draws := by
  cases r <;> rfl

@[simp] theorem setPair_a (s : State) (p : Pair) (v : Word) : (s.setPair p v).a = s.a := by
  cases p <;> rfl
@[simp] theorem setPair_f (s : State) (p : Pair) (v : Word) : (s.setPair p v).f = s.f := by
  cases p <;> rfl
@[simp] theorem setPair_pc (s : State) (p : Pair) (v : Word) : (s.setPair p v).pc = s.pc := by
  cases p <;> rfl
@[simp] theorem setPair_redirect (s : State) (p : Pair) (v : Word) : (s.setPair p v).redirect = s.redirect := by
  cases p <;> rfl
@[simp] theorem setPair_ime (s : State) (p : Pair) (v : Word) : (s.setPair p v).ime = s.ime := by
  cases p <;> rfl
@[simp] theorem setPair_halted (s : State) (p : Pair) (v : Word) : (s.setPair p v).halted = s.halted := by
  cases p <;> rfl
@[simp] theorem setPair_invalid (s : State) (p : Pair) (v : Word) : (s.setPair p v).invalid = s.invalid := by
  cases p <;> rfl
@[simp] theorem setPair_unimpl (s : State) (p : Pair) (v : Word) : (s.setPair p v).unimpl = s.unimpl := by
  cases p <;> rfl
@[simp] theorem setPair_icount (s : State) (p : Pair) (v : Word) : (s.setPair p v).icount = s.icount := by
  cases p <;> rfl
@[simp] theorem setPair_snap (s : State) (p : Pair) (v : Word) : (s.setPair p v).snap = s.snap := by
  cases p <;> rfl
@[simp] theorem setPair_mem (s : State) (p : Pair) (v : Word) : (s.setPair p v).mem = s.mem := by
  cases p <;> rfl
@[simp] theorem setPair_ie (s : State) (p : Pair) (v : Word) : (s.setPair p v).ie = s.ie := by
  cases p <;> rfl
@[simp] theorem setPair_iflag (s : State) (p : Pair) (v : Word) : (s.setPair p v).iflag = s.iflag := by
  cases p <;> rfl
@[simp] theorem setPair_history (s : State) (p : Pair) (v : Word) : (s.setPair p v).history = s.history := by
  cases p <;> rfl
@[simp] theorem setPair_draws (s : State) (p : Pair) (v : Word) : (s.setPair p v).draws = s.draws := by
  cases p <;> rfl

@[simp] theorem setStackPair_sp (s : State) (p : StackPair) (v : Word) : (s.setStackPair p v).sp = s.sp := by
  cases p <;> rfl
@[simp] theorem setStackPair_pc (s : State) (p : StackPair) (v : Word) : (s.setStackPair p v).pc = s.pc := by
  cases p <;> rfl
@[simp] theorem setStackPair_redirect (s : State) (p : StackPair) (v : Word) : (s.setStackPair p v).redirect = s.redirect := by
  cases p <;> rfl
@[simp] theorem setStackPair_ime (s : State) (p : StackPair) (v : Word) : (s.setStackPair p v).ime = s.ime := by
  cases p <;> rfl
@[simp] theorem setStackPair_halted (s : State) (p : StackPair) (v : Word) : (s.setStackPair p v).halted = s.halted := by
  cases p <;> rfl
@[simp] theorem setStackPair_invalid (s : State) (p : StackPair) (v : Word) : (s.setStackPair p v).invalid = s.invalid := by
  cases p <;> rfl
@[simp] theorem setStackPair_unimpl (s : State) (p : StackPair) (v : Word) : (s.setStackPair p v).unimpl = s.unimpl := by
  cases p <;> rfl
@[simp] theorem setStackPair_icount (s : State) (p : StackPair) (v : Word) : (s.setStackPair p v).icount = s.icount := by
  cases p <;> rfl
@[simp] theorem setStackPair_snap (s : State) (p : StackPair) (v : Word) : (s.setStackPair p v).snap = s.snap := by
  cases p <;> rfl
@[simp] theorem setStackPair_mem (s : State) (p : StackPair) (v : Word) : (s.setStackPair p v).mem = s.mem := by
  cases p <;> rfl
@[simp] theorem setStackPair_ie (s : State) (p : StackPair) (v : Word) : (s.setStackPair p v).ie = s.ie := by
  cases p <;> rfl
@[simp] theorem setStackPair_iflag (s : State) (p : StackPair) (v : Word) : (s.setStackPair p v).iflag = s.iflag := by
  cases p <;> rfl
@[simp] theorem setStackPair_history (s : State) (p : StackPair) (v : Word) : (s.setStackPair p v).history = s.history := by
  cases p <;> rfl
@[simp] theorem setStackPair_draws (s : State) (p : StackPair) (v : Word) : (s.setStackPair p v).draws = s.draws := by
  cases p <;> rfl

/-! ### The accesses: no register, no control bit -/

@[simp] theorem load_a (s : State) (a : Word) : (s.load a).2.a = s.a := by
  unfold State.load; split <;> rfl
@[simp] theorem load_f (s : State) (a : Word) : (s.load a).2.f = s.f := by
  unfold State.load; split <;> rfl
@[simp] theorem load_b (s : State) (a : Word) : (s.load a).2.b = s.b := by
  unfold State.load; split <;> rfl
@[simp] theorem load_c (s : State) (a : Word) : (s.load a).2.c = s.c := by
  unfold State.load; split <;> rfl
@[simp] theorem load_d (s : State) (a : Word) : (s.load a).2.d = s.d := by
  unfold State.load; split <;> rfl
@[simp] theorem load_e (s : State) (a : Word) : (s.load a).2.e = s.e := by
  unfold State.load; split <;> rfl
@[simp] theorem load_h (s : State) (a : Word) : (s.load a).2.h = s.h := by
  unfold State.load; split <;> rfl
@[simp] theorem load_l (s : State) (a : Word) : (s.load a).2.l = s.l := by
  unfold State.load; split <;> rfl
@[simp] theorem load_sp (s : State) (a : Word) : (s.load a).2.sp = s.sp := by
  unfold State.load; split <;> rfl
@[simp] theorem load_pc (s : State) (a : Word) : (s.load a).2.pc = s.pc := by
  unfold State.load; split <;> rfl
@[simp] theorem load_redirect (s : State) (a : Word) : (s.load a).2.redirect = s.redirect := by
  unfold State.load; split <;> rfl
@[simp] theorem load_ime (s : State) (a : Word) : (s.load a).2.ime = s.ime := by
  unfold State.load; split <;> rfl
@[simp] theorem load_halted (s : State) (a : Word) : (s.load a).2.halted = s.halted := by
  unfold State.load; split <;> rfl
@[simp] theorem load_unimpl (s : State) (a : Word) : (s.load a).2.unimpl = s.unimpl := by
  unfold State.load; split <;> rfl
@[simp] theorem load_icount (s : State) (a : Word) : (s.load a).2.icount = s.icount := by
  unfold State.load; split <;> rfl
@[simp] theorem load_snap (s : State) (a : Word) : (s.load a).2.snap = s.snap := by
  unfold State.load; split <;> rfl

@[simp] theorem load_history (s : State) (a : Word) : (s.load a).2.history = s.history := by
  unfold State.load; split <;> rfl

@[simp] theorem store_a (s : State) (a : Word) (v : Byte) : (s.store a v).a = s.a := by
  unfold State.store; split <;> rfl
@[simp] theorem store_f (s : State) (a : Word) (v : Byte) : (s.store a v).f = s.f := by
  unfold State.store; split <;> rfl
@[simp] theorem store_b (s : State) (a : Word) (v : Byte) : (s.store a v).b = s.b := by
  unfold State.store; split <;> rfl
@[simp] theorem store_c (s : State) (a : Word) (v : Byte) : (s.store a v).c = s.c := by
  unfold State.store; split <;> rfl
@[simp] theorem store_d (s : State) (a : Word) (v : Byte) : (s.store a v).d = s.d := by
  unfold State.store; split <;> rfl
@[simp] theorem store_e (s : State) (a : Word) (v : Byte) : (s.store a v).e = s.e := by
  unfold State.store; split <;> rfl
@[simp] theorem store_h (s : State) (a : Word) (v : Byte) : (s.store a v).h = s.h := by
  unfold State.store; split <;> rfl
@[simp] theorem store_l (s : State) (a : Word) (v : Byte) : (s.store a v).l = s.l := by
  unfold State.store; split <;> rfl
@[simp] theorem store_sp (s : State) (a : Word) (v : Byte) : (s.store a v).sp = s.sp := by
  unfold State.store; split <;> rfl
@[simp] theorem store_pc (s : State) (a : Word) (v : Byte) : (s.store a v).pc = s.pc := by
  unfold State.store; split <;> rfl
@[simp] theorem store_redirect (s : State) (a : Word) (v : Byte) : (s.store a v).redirect = s.redirect := by
  unfold State.store; split <;> rfl
@[simp] theorem store_ime (s : State) (a : Word) (v : Byte) : (s.store a v).ime = s.ime := by
  unfold State.store; split <;> rfl
@[simp] theorem store_halted (s : State) (a : Word) (v : Byte) : (s.store a v).halted = s.halted := by
  unfold State.store; split <;> rfl
@[simp] theorem store_unimpl (s : State) (a : Word) (v : Byte) : (s.store a v).unimpl = s.unimpl := by
  unfold State.store; split <;> rfl
@[simp] theorem store_icount (s : State) (a : Word) (v : Byte) : (s.store a v).icount = s.icount := by
  unfold State.store; split <;> rfl
@[simp] theorem store_snap (s : State) (a : Word) (v : Byte) : (s.store a v).snap = s.snap := by
  unfold State.store; split <;> rfl

@[simp] theorem store_history (s : State) (a : Word) (v : Byte) : (s.store a v).history = s.history := by
  unfold State.store; split <;> rfl

@[simp] theorem store_draws (s : State) (a : Word) (v : Byte) : (s.store a v).draws = s.draws := by
  unfold State.store; split <;> rfl

@[simp] theorem memRead_a (s : State) (a : Word) : (s.memRead a).2.a = s.a := by
  simp [State.memRead]
@[simp] theorem memRead_f (s : State) (a : Word) : (s.memRead a).2.f = s.f := by
  simp [State.memRead]
@[simp] theorem memRead_b (s : State) (a : Word) : (s.memRead a).2.b = s.b := by
  simp [State.memRead]
@[simp] theorem memRead_c (s : State) (a : Word) : (s.memRead a).2.c = s.c := by
  simp [State.memRead]
@[simp] theorem memRead_d (s : State) (a : Word) : (s.memRead a).2.d = s.d := by
  simp [State.memRead]
@[simp] theorem memRead_e (s : State) (a : Word) : (s.memRead a).2.e = s.e := by
  simp [State.memRead]
@[simp] theorem memRead_h (s : State) (a : Word) : (s.memRead a).2.h = s.h := by
  simp [State.memRead]
@[simp] theorem memRead_l (s : State) (a : Word) : (s.memRead a).2.l = s.l := by
  simp [State.memRead]
@[simp] theorem memRead_sp (s : State) (a : Word) : (s.memRead a).2.sp = s.sp := by
  simp [State.memRead]
@[simp] theorem memRead_pc (s : State) (a : Word) : (s.memRead a).2.pc = s.pc := by
  simp [State.memRead]
@[simp] theorem memRead_redirect (s : State) (a : Word) : (s.memRead a).2.redirect = s.redirect := by
  simp [State.memRead]
@[simp] theorem memRead_ime (s : State) (a : Word) : (s.memRead a).2.ime = s.ime := by
  simp [State.memRead]
@[simp] theorem memRead_halted (s : State) (a : Word) : (s.memRead a).2.halted = s.halted := by
  simp [State.memRead]
@[simp] theorem memRead_unimpl (s : State) (a : Word) : (s.memRead a).2.unimpl = s.unimpl := by
  simp [State.memRead]
@[simp] theorem memRead_icount (s : State) (a : Word) : (s.memRead a).2.icount = s.icount := by
  simp [State.memRead]
@[simp] theorem memRead_snap (s : State) (a : Word) : (s.memRead a).2.snap = s.snap := by
  simp [State.memRead]

@[simp] theorem memRead_history (s : State) (a : Word) : (s.memRead a).2.history = .read a :: s.history := by
  simp [State.memRead]

@[simp] theorem memWrite_a (s : State) (a : Word) (v : Byte) : (s.memWrite a v).a = s.a := by
  simp [State.memWrite]
@[simp] theorem memWrite_f (s : State) (a : Word) (v : Byte) : (s.memWrite a v).f = s.f := by
  simp [State.memWrite]
@[simp] theorem memWrite_b (s : State) (a : Word) (v : Byte) : (s.memWrite a v).b = s.b := by
  simp [State.memWrite]
@[simp] theorem memWrite_c (s : State) (a : Word) (v : Byte) : (s.memWrite a v).c = s.c := by
  simp [State.memWrite]
@[simp] theorem memWrite_d (s : State) (a : Word) (v : Byte) : (s.memWrite a v).d = s.d := by
  simp [State.memWrite]
@[simp] theorem memWrite_e (s : State) (a : Word) (v : Byte) : (s.memWrite a v).e = s.e := by
  simp [State.memWrite]
@[simp] theorem memWrite_h (s : State) (a : Word) (v : Byte) : (s.memWrite a v).h = s.h := by
  simp [State.memWrite]
@[simp] theorem memWrite_l (s : State) (a : Word) (v : Byte) : (s.memWrite a v).l = s.l := by
  simp [State.memWrite]
@[simp] theorem memWrite_sp (s : State) (a : Word) (v : Byte) : (s.memWrite a v).sp = s.sp := by
  simp [State.memWrite]
@[simp] theorem memWrite_pc (s : State) (a : Word) (v : Byte) : (s.memWrite a v).pc = s.pc := by
  simp [State.memWrite]
@[simp] theorem memWrite_redirect (s : State) (a : Word) (v : Byte) : (s.memWrite a v).redirect = s.redirect := by
  simp [State.memWrite]
@[simp] theorem memWrite_ime (s : State) (a : Word) (v : Byte) : (s.memWrite a v).ime = s.ime := by
  simp [State.memWrite]
@[simp] theorem memWrite_halted (s : State) (a : Word) (v : Byte) : (s.memWrite a v).halted = s.halted := by
  simp [State.memWrite]
@[simp] theorem memWrite_unimpl (s : State) (a : Word) (v : Byte) : (s.memWrite a v).unimpl = s.unimpl := by
  simp [State.memWrite]
@[simp] theorem memWrite_icount (s : State) (a : Word) (v : Byte) : (s.memWrite a v).icount = s.icount := by
  simp [State.memWrite]
@[simp] theorem memWrite_snap (s : State) (a : Word) (v : Byte) : (s.memWrite a v).snap = s.snap := by
  simp [State.memWrite]

@[simp] theorem memWrite_history (s : State) (a : Word) (v : Byte) :
    (s.memWrite a v).history = .write a v :: s.history := by
  simp [State.memWrite]

@[simp] theorem memRead16_a (s : State) (a : Word) : (s.memRead16 a).2.a = s.a := by
  simp [State.memRead16]
@[simp] theorem memRead16_f (s : State) (a : Word) : (s.memRead16 a).2.f = s.f := by
  simp [State.memRead16]
@[simp] theorem memRead16_b (s : State) (a : Word) : (s.memRead16 a).2.b = s.b := by
  simp [State.memRead16]
@[simp] theorem memRead16_c (s : State) (a : Word) : (s.memRead16 a).2.c = s.c := by
  simp [State.memRead16]
@[simp] theorem memRead16_d (s : State) (a : Word) : (s.memRead16 a).2.d = s.d := by
  simp [State.memRead16]
@[simp] theorem memRead16_e (s : State) (a : Word) : (s.memRead16 a).2.e = s.e := by
  simp [State.memRead16]
@[simp] theorem memRead16_h (s : State) (a : Word) : (s.memRead16 a).2.h = s.h := by
  simp [State.memRead16]
@[simp] theorem memRead16_l (s : State) (a : Word) : (s.memRead16 a).2.l = s.l := by
  simp [State.memRead16]
@[simp] theorem memRead16_sp (s : State) (a : Word) : (s.memRead16 a).2.sp = s.sp := by
  simp [State.memRead16]
@[simp] theorem memRead16_pc (s : State) (a : Word) : (s.memRead16 a).2.pc = s.pc := by
  simp [State.memRead16]
@[simp] theorem memRead16_redirect (s : State) (a : Word) : (s.memRead16 a).2.redirect = s.redirect := by
  simp [State.memRead16]
@[simp] theorem memRead16_ime (s : State) (a : Word) : (s.memRead16 a).2.ime = s.ime := by
  simp [State.memRead16]
@[simp] theorem memRead16_halted (s : State) (a : Word) : (s.memRead16 a).2.halted = s.halted := by
  simp [State.memRead16]
@[simp] theorem memRead16_unimpl (s : State) (a : Word) : (s.memRead16 a).2.unimpl = s.unimpl := by
  simp [State.memRead16]
@[simp] theorem memRead16_icount (s : State) (a : Word) : (s.memRead16 a).2.icount = s.icount := by
  simp [State.memRead16]
@[simp] theorem memRead16_snap (s : State) (a : Word) : (s.memRead16 a).2.snap = s.snap := by
  simp [State.memRead16]

@[simp] theorem memWrite16_a (s : State) (a v : Word) : (s.memWrite16 a v).a = s.a := by
  simp [State.memWrite16]
@[simp] theorem memWrite16_f (s : State) (a v : Word) : (s.memWrite16 a v).f = s.f := by
  simp [State.memWrite16]
@[simp] theorem memWrite16_b (s : State) (a v : Word) : (s.memWrite16 a v).b = s.b := by
  simp [State.memWrite16]
@[simp] theorem memWrite16_c (s : State) (a v : Word) : (s.memWrite16 a v).c = s.c := by
  simp [State.memWrite16]
@[simp] theorem memWrite16_d (s : State) (a v : Word) : (s.memWrite16 a v).d = s.d := by
  simp [State.memWrite16]
@[simp] theorem memWrite16_e (s : State) (a v : Word) : (s.memWrite16 a v).e = s.e := by
  simp [State.memWrite16]
@[simp] theorem memWrite16_h (s : State) (a v : Word) : (s.memWrite16 a v).h = s.h := by
  simp [State.memWrite16]
@[simp] theorem memWrite16_l (s : State) (a v : Word) : (s.memWrite16 a v).l = s.l := by
  simp [State.memWrite16]
@[simp] theorem memWrite16_sp (s : State) (a v : Word) : (s.memWrite16 a v).sp = s.sp := by
  simp [State.memWrite16]
@[simp] theorem memWrite16_pc (s : State) (a v : Word) : (s.memWrite16 a v).pc = s.pc := by
  simp [State.memWrite16]
@[simp] theorem memWrite16_redirect (s : State) (a v : Word) : (s.memWrite16 a v).redirect = s.redirect := by
  simp [State.memWrite16]
@[simp] theorem memWrite16_ime (s : State) (a v : Word) : (s.memWrite16 a v).ime = s.ime := by
  simp [State.memWrite16]
@[simp] theorem memWrite16_halted (s : State) (a v : Word) : (s.memWrite16 a v).halted = s.halted := by
  simp [State.memWrite16]
@[simp] theorem memWrite16_unimpl (s : State) (a v : Word) : (s.memWrite16 a v).unimpl = s.unimpl := by
  simp [State.memWrite16]
@[simp] theorem memWrite16_icount (s : State) (a v : Word) : (s.memWrite16 a v).icount = s.icount := by
  simp [State.memWrite16]
@[simp] theorem memWrite16_snap (s : State) (a v : Word) : (s.memWrite16 a v).snap = s.snap := by
  simp [State.memWrite16]

@[simp] theorem push16_a (s : State) (v : Word) : (s.push16 v).a = s.a := by
  simp [State.push16]
@[simp] theorem push16_f (s : State) (v : Word) : (s.push16 v).f = s.f := by
  simp [State.push16]
@[simp] theorem push16_b (s : State) (v : Word) : (s.push16 v).b = s.b := by
  simp [State.push16]
@[simp] theorem push16_c (s : State) (v : Word) : (s.push16 v).c = s.c := by
  simp [State.push16]
@[simp] theorem push16_d (s : State) (v : Word) : (s.push16 v).d = s.d := by
  simp [State.push16]
@[simp] theorem push16_e (s : State) (v : Word) : (s.push16 v).e = s.e := by
  simp [State.push16]
@[simp] theorem push16_h (s : State) (v : Word) : (s.push16 v).h = s.h := by
  simp [State.push16]
@[simp] theorem push16_l (s : State) (v : Word) : (s.push16 v).l = s.l := by
  simp [State.push16]
@[simp] theorem push16_pc (s : State) (v : Word) : (s.push16 v).pc = s.pc := by
  simp [State.push16]
@[simp] theorem push16_redirect (s : State) (v : Word) : (s.push16 v).redirect = s.redirect := by
  simp [State.push16]
@[simp] theorem push16_ime (s : State) (v : Word) : (s.push16 v).ime = s.ime := by
  simp [State.push16]
@[simp] theorem push16_halted (s : State) (v : Word) : (s.push16 v).halted = s.halted := by
  simp [State.push16]
@[simp] theorem push16_unimpl (s : State) (v : Word) : (s.push16 v).unimpl = s.unimpl := by
  simp [State.push16]
@[simp] theorem push16_icount (s : State) (v : Word) : (s.push16 v).icount = s.icount := by
  simp [State.push16]
@[simp] theorem push16_snap (s : State) (v : Word) : (s.push16 v).snap = s.snap := by
  simp [State.push16]

@[simp] theorem push16_sp (s : State) (v : Word) : (s.push16 v).sp = s.sp - 2 := by
  simp [State.push16]

@[simp] theorem pop16_a (s : State)  : s.pop16.2.a = s.a := by
  simp [State.pop16]
@[simp] theorem pop16_f (s : State)  : s.pop16.2.f = s.f := by
  simp [State.pop16]
@[simp] theorem pop16_b (s : State)  : s.pop16.2.b = s.b := by
  simp [State.pop16]
@[simp] theorem pop16_c (s : State)  : s.pop16.2.c = s.c := by
  simp [State.pop16]
@[simp] theorem pop16_d (s : State)  : s.pop16.2.d = s.d := by
  simp [State.pop16]
@[simp] theorem pop16_e (s : State)  : s.pop16.2.e = s.e := by
  simp [State.pop16]
@[simp] theorem pop16_h (s : State)  : s.pop16.2.h = s.h := by
  simp [State.pop16]
@[simp] theorem pop16_l (s : State)  : s.pop16.2.l = s.l := by
  simp [State.pop16]
@[simp] theorem pop16_pc (s : State)  : s.pop16.2.pc = s.pc := by
  simp [State.pop16]
@[simp] theorem pop16_redirect (s : State)  : s.pop16.2.redirect = s.redirect := by
  simp [State.pop16]
@[simp] theorem pop16_ime (s : State)  : s.pop16.2.ime = s.ime := by
  simp [State.pop16]
@[simp] theorem pop16_halted (s : State)  : s.pop16.2.halted = s.halted := by
  simp [State.pop16]
@[simp] theorem pop16_unimpl (s : State)  : s.pop16.2.unimpl = s.unimpl := by
  simp [State.pop16]
@[simp] theorem pop16_icount (s : State)  : s.pop16.2.icount = s.icount := by
  simp [State.pop16]
@[simp] theorem pop16_snap (s : State)  : s.pop16.2.snap = s.snap := by
  simp [State.pop16]

@[simp] theorem pop16_sp (s : State) : s.pop16.2.sp = s.sp + 2 := by
  simp [State.pop16]

/-! ### Accessors over updates -/

theorem packFlags_bit7 (z n h c : Bool) : (packFlags z n h c).getLsbD 7 = z := by
  cases z <;> cases n <;> cases h <;> cases c <;> rfl
theorem packFlags_bit6 (z n h c : Bool) : (packFlags z n h c).getLsbD 6 = n := by
  cases z <;> cases n <;> cases h <;> cases c <;> rfl
theorem packFlags_bit5 (z n h c : Bool) : (packFlags z n h c).getLsbD 5 = h := by
  cases z <;> cases n <;> cases h <;> cases c <;> rfl
theorem packFlags_bit4 (z n h c : Bool) : (packFlags z n h c).getLsbD 4 = c := by
  cases z <;> cases n <;> cases h <;> cases c <;> rfl
theorem packFlags_low (z n h c : Bool) : packFlags z n h c &&& 0x0F = 0 := by
  cases z <;> cases n <;> cases h <;> cases c <;> rfl

@[simp] theorem setFlags_flagZ (s : State) (z n h c : Bool) : (s.setFlags z n h c).flagZ = z :=
  packFlags_bit7 z n h c
@[simp] theorem setFlags_flagN (s : State) (z n h c : Bool) : (s.setFlags z n h c).flagN = n :=
  packFlags_bit6 z n h c
@[simp] theorem setFlags_flagH (s : State) (z n h c : Bool) : (s.setFlags z n h c).flagH = h :=
  packFlags_bit5 z n h c
@[simp] theorem setFlags_flagC (s : State) (z n h c : Bool) : (s.setFlags z n h c).flagC = c :=
  packFlags_bit4 z n h c
@[simp] theorem setFlags_reg8 (s : State) (z n h c : Bool) (r : Reg8) :
    (s.setFlags z n h c).reg8 r = s.reg8 r := by
  cases r <;> rfl

/-- A register reads back what was written to it. -/
@[simp] theorem setReg8_reg8_same (s : State) (r : Reg8) (v : Byte) : (s.setReg8 r v).reg8 r = v := by
  cases r <;> rfl

/-- A write to one register leaves the others. -/
theorem setReg8_reg8_other (s : State) (q r : Reg8) (v : Byte) (hne : q ≠ r) :
    (s.setReg8 r v).reg8 q = s.reg8 q := by
  cases q <;> cases r <;> first | rfl | exact absurd rfl hne

@[simp] theorem memRead_reg8 (s : State) (a : Word) (r : Reg8) : (s.memRead a).2.reg8 r = s.reg8 r := by
  cases r <;> simp [State.reg8]
@[simp] theorem memWrite_reg8 (s : State) (a : Word) (v : Byte) (r : Reg8) :
    (s.memWrite a v).reg8 r = s.reg8 r := by
  cases r <;> simp [State.reg8]

end Sys2Proof.Machine
end

