-- ==== Sys2Proof/Laws/Bus.lean ====
section
/-! SUPPORT. The laws of the bus: what one access does to the bytes of the address space, to the history and
to the signal, said once for each primitive. -/

namespace Sys2Proof.Machine

/-! ### Regions -/

theorem region_ie {a : Word} (h : region a = .ie) : a = 0xFFFF := by
  simp only [region] at h
  apply BitVec.eq_of_toNat_eq
  split_ifs at h; simpa

theorem region_iflag {a : Word} (h : region a = .iflag) : a = 0xFF0F := by
  simp only [region] at h
  apply BitVec.eq_of_toNat_eq
  split_ifs at h; simpa

theorem region_ly {a : Word} (h : region a = .ly) : a = 0xFF44 := by
  simp only [region] at h
  apply BitVec.eq_of_toNat_eq
  split_ifs at h; simpa

/-- The regions whose cells are plain array cells. -/
def plainRegion (r : Region) : Bool :=
  match r with
  | .rom | .wram0 | .wram1 | .hram | .vram | .io => true
  | .ie | .iflag | .ly | .unmapped => false

theorem plain_ne_lyCell {a : Word} (h : plainRegion (region a) = true) : a.toNat ≠ lyCell := by
  intro he
  have : a = 0xFF44 := BitVec.eq_of_toNat_eq (by simpa [lyCell] using he)
  subst this
  revert h
  decide

theorem byteAt_plain {s : State} {a : Word} (h : plainRegion (region a) = true) :
    s.byteAt a = some (s.mem.get a.toNat) := by
  unfold State.byteAt
  revert h
  cases region a <;> simp [plainRegion]

/-- A memory that differs in the scanline cell alone reads the same everywhere. -/
theorem byteAt_set_ly (s : State) (v : Byte) (a : Word) :
    State.byteAt { s with mem := s.mem.set lyCell v } a = s.byteAt a := by
  by_cases h : plainRegion (region a) = true
  · rw [byteAt_plain h, byteAt_plain h]
    simp only [Memory.get_set_other _ (plain_ne_lyCell h)]
  · unfold State.byteAt
    revert h
    cases region a <;> simp [plainRegion]

/-! ### Loads -/

@[simp] theorem record_byteAt (s : State) (ev : AccessEvent) (a : Word) :
    (s.record ev).byteAt a = s.byteAt a := rfl

/-- A read leaves every byte of the address space. -/
@[simp] theorem load_byteAt (s : State) (a b : Word) : (s.load a).2.byteAt b = s.byteAt b := by
  unfold State.load
  split <;> first | rfl | exact byteAt_set_ly s _ b

/-- A read returns what the address reads as. -/
theorem load_readsAs (s : State) (a : Word) : ReadsAs s a (s.load a).1 := by
  intro x
  unfold State.byteAt State.load
  cases region a <;> simp

theorem load_invalid (s : State) (a : Word) : (s.load a).2.invalid = (s.invalid || unmapped a) := by
  unfold State.load unmapped
  cases region a <;> simp

/-- A draw is taken exactly at an unmapped address. -/
theorem load_draws (s : State) (a : Word) :
    (s.load a).2.draws = s.draws + (if unmapped a = true then 1 else 0) := by
  unfold State.load unmapped
  cases region a <;> simp

@[simp] theorem load_ie (s : State) (a : Word) : (s.load a).2.ie = s.ie := by
  unfold State.load; split <;> rfl
@[simp] theorem load_iflag (s : State) (a : Word) : (s.load a).2.iflag = s.iflag := by
  unfold State.load; split <;> rfl

theorem load_mem_wf {s : State} (h : s.mem.wf) (a : Word) : (s.load a).2.mem.wf := by
  unfold State.load
  split <;> first | exact h | exact Memory.set_wf h _ _

@[simp] theorem memRead_byteAt (s : State) (a b : Word) : (s.memRead a).2.byteAt b = s.byteAt b := by
  simp [State.memRead]

theorem memRead_readsAs (s : State) (a : Word) : ReadsAs s a (s.memRead a).1 :=
  load_readsAs (s.record (.read a)) a

theorem memRead_invalid (s : State) (a : Word) : (s.memRead a).2.invalid = (s.invalid || unmapped a) :=
  load_invalid (s.record (.read a)) a

@[simp] theorem memRead_ie (s : State) (a : Word) : (s.memRead a).2.ie = s.ie := load_ie _ a
@[simp] theorem memRead_iflag (s : State) (a : Word) : (s.memRead a).2.iflag = s.iflag := load_iflag _ a

theorem memRead_mem_wf {s : State} (h : s.mem.wf) (a : Word) : (s.memRead a).2.mem.wf :=
  load_mem_wf (s := s.record (.read a)) h a

/-! ### Stores -/

/-- A write leaves every byte outside its address. -/
theorem store_byteAt_other (s : State) {a b : Word} (hne : b ≠ a) (v : Byte) :
    (s.store a v).byteAt b = s.byteAt b := by
  have hn : b.toNat ≠ a.toNat := fun h => hne (BitVec.eq_of_toNat_eq h)
  have plain : State.byteAt { s with mem := s.mem.set a.toNat v } b = s.byteAt b := by
    unfold State.byteAt
    cases region b <;> simp [Memory.get_set_other _ hn]
  unfold State.store
  split
  · rename_i h
    unfold State.byteAt
    cases hb : region b <;> simp
    exact absurd ((region_ie hb).trans (region_ie h).symm) hne
  · rename_i h
    unfold State.byteAt
    cases hb : region b <;> simp
    exact absurd ((region_iflag hb).trans (region_iflag h).symm) hne
  · rw [show (Memory.set (Memory.set s.mem lyCell lyValue) lyCell v) =
        ({ s with mem := s.mem.set lyCell lyValue } : State).mem.set lyCell v from rfl]
    exact (byteAt_set_ly { s with mem := s.mem.set lyCell lyValue } v b).trans (byteAt_set_ly s _ b)
  · rfl
  all_goals exact plain

/-- A write is read back where the address keeps what is stored. -/
theorem store_byteAt_same (s : State) (a : Word) (v : Byte) : Stored s (s.store a v) a v := by
  intro hw hr
  unfold State.store State.byteAt
  revert hr
  unfold retains unmapped
  cases region a <;> simp [Memory.get_set_same hw]

theorem store_invalid (s : State) (a : Word) (v : Byte) :
    (s.store a v).invalid = (s.invalid || unmapped a) := by
  unfold State.store unmapped
  cases region a <;> simp

theorem store_mem_wf {s : State} (h : s.mem.wf) (a : Word) (v : Byte) : (s.store a v).mem.wf := by
  unfold State.store
  split <;> first | exact h | exact Memory.set_wf h _ _ | exact Memory.set_wf (Memory.set_wf h _ _) _ _

theorem memWrite_byteAt_other (s : State) {a b : Word} (hne : b ≠ a) (v : Byte) :
    (s.memWrite a v).byteAt b = s.byteAt b :=
  store_byteAt_other (s.record (.write a v)) hne v

theorem memWrite_byteAt_same (s : State) (a : Word) (v : Byte) : Stored s (s.memWrite a v) a v :=
  store_byteAt_same (s.record (.write a v)) a v

theorem memWrite_invalid (s : State) (a : Word) (v : Byte) :
    (s.memWrite a v).invalid = (s.invalid || unmapped a) :=
  store_invalid (s.record (.write a v)) a v

@[simp] theorem memWrite_draws (s : State) (a : Word) (v : Byte) : (s.memWrite a v).draws = s.draws :=
  store_draws (s.record (.write a v)) a v

theorem memWrite_mem_wf {s : State} (h : s.mem.wf) (a : Word) (v : Byte) : (s.memWrite a v).mem.wf :=
  store_mem_wf (s := s.record (.write a v)) h a v

/-! ### Sequences of accesses -/

theorem accesses_nil (s : State) : Accesses [] s s := by simp [Accesses]

theorem memRead_accesses (s : State) (a : Word) : Accesses [.read a] s (s.memRead a).2 := by
  simp [Accesses, memRead_invalid, AccessEvent.addr]

theorem memWrite_accesses (s : State) (a : Word) (v : Byte) : Accesses [.write a v] s (s.memWrite a v) := by
  simp [Accesses, memWrite_invalid, AccessEvent.addr]

theorem Accesses.trans {xs ys : List AccessEvent} {s t u : State} (h : Accesses xs s t)
    (h' : Accesses ys t u) : Accesses (xs ++ ys) s u := by
  obtain ⟨h1, h2⟩ := h
  obtain ⟨h3, h4⟩ := h'
  exact ⟨by simp [h3, h1], by simp [h4, h2, Bool.or_assoc]⟩

/-- A change of the state that makes no access and leaves the history and the signal. -/
theorem Accesses.congr {xs : List AccessEvent} {s t u : State} (h : Accesses xs s t)
    (hh : u.history = t.history) (hi : u.invalid = t.invalid) : Accesses xs s u := by
  unfold Accesses at *
  rw [hh, hi]
  exact h

end Sys2Proof.Machine
end

