-- ==== Sys2Proof/Laws/Words.lean ====
section
/-! SUPPORT. The laws of the two halves of a word and of its bytes. -/

namespace Sys2Proof

@[simp] theorem wordOf_toNat (hi lo : Byte) : (wordOf hi lo).toNat = hi.toNat * 256 + lo.toNat := by
  have := hi.isLt; have := lo.isLt
  simp only [wordOf, BitVec.toNat_ofNat]; omega

@[simp] theorem hiByte_toNat (v : Word) : (hiByte v).toNat = v.toNat / 256 := by
  have := v.isLt
  simp only [hiByte, BitVec.toNat_ofNat]; omega

@[simp] theorem loByte_toNat (v : Word) : (loByte v).toNat = v.toNat % 256 := by
  simp [loByte]

@[simp] theorem hiByte_wordOf (hi lo : Byte) : hiByte (wordOf hi lo) = hi := by
  have := lo.isLt
  apply BitVec.eq_of_toNat_eq; simp; omega

@[simp] theorem loByte_wordOf (hi lo : Byte) : loByte (wordOf hi lo) = lo := by
  have := lo.isLt
  apply BitVec.eq_of_toNat_eq; simp; omega

@[simp] theorem wordOf_hiByte_loByte (v : Word) : wordOf (hiByte v) (loByte v) = v := by
  apply BitVec.eq_of_toNat_eq; simp; omega

/-- A property of every byte, checked one byte at a time. -/
theorem Byte.forall_of_fin {p : Byte → Prop} (h : ∀ n : Fin 256, p (BitVec.ofFin n)) (v : Byte) : p v :=
  h v.toFin

end Sys2Proof
end

