-- ==== Sys2Proof/Laws/Encoding.lean ====
section
/-! SUPPORT. The laws of the opcode map and the encoder, one lemma per operand format (R120): what decoding
and encoding do with a first byte of that format. -/

namespace Sys2Proof

/-! ### Decoding, by the pattern of the first byte -/

theorem decode_whole {op : Byte} {i : Instr} (h : decodeFirst op = .whole i) (rest : List Byte) :
    decode ([op] ++ rest) = .ok (i, rest) := by simp [decode, h]

theorem decode_imm8 {op : Byte} {f : Byte → Instr} (h : decodeFirst op = .imm8 f) (n : Byte)
    (rest : List Byte) : decode ([op, n] ++ rest) = .ok (f n, rest) := by simp [decode, h]

theorem decode_imm16 {op : Byte} {f : Word → Instr} (h : decodeFirst op = .imm16 f) (n : Word)
    (rest : List Byte) : decode ([op, loByte n, hiByte n] ++ rest) = .ok (f n, rest) := by simp [decode, h]

theorem decode_extended {cbop : Byte} {i : Instr} (h : decodeExtended cbop = i) (rest : List Byte) :
    decode ([0xCB, cbop] ++ rest) = .ok (i, rest) := by subst h; rfl

/-! ### Encoding what the opcode map gives -/

/-- What a pattern of the opcode map encodes to. -/
def Pattern.encodesAs (p : Pattern) (op : Byte) : Prop :=
  match p with
  | .whole i => encode i = [op]
  | .imm8 f => ∀ n, encode (f n) = [op, n]
  | .imm16 f => ∀ n, encode (f n) = [op, loByte n, hiByte n]
  | .extended => op = 0xCB

theorem decodeFirst_encodesAs (op : Byte) : (decodeFirst op).encodesAs op := by
  apply Byte.forall_of_fin (p := fun op => (decodeFirst op).encodesAs op)
  intro n
  fin_cases n <;> first | rfl | (intro n; rfl)

theorem encode_decodeExtended (cbop : Byte) : encode (decodeExtended cbop) = [0xCB, cbop] := by
  apply Byte.forall_of_fin (p := fun op => encode (decodeExtended op) = [0xCB, op])
  intro n
  fin_cases n <;> rfl

/-- The four formats of an encoding (R120), each with what the opcode map says of its first byte. -/
theorem encode_cases (i : Instr) :
    (∃ op, encode i = [op] ∧ decodeFirst op = .whole i) ∨
    (∃ op f n, encode i = [op, n] ∧ decodeFirst op = .imm8 f ∧ f n = i) ∨
    (∃ op f n, encode i = [op, loByte n, hiByte n] ∧ decodeFirst op = .imm16 f ∧ f n = i) ∨
    (∃ cbop, encode i = [0xCB, cbop] ∧ decodeExtended cbop = i) := by
  cases i <;> first
    | exact .inr (.inr (.inr ⟨_, rfl, rfl⟩))
    | exact .inl ⟨_, rfl, rfl⟩
    | exact .inr (.inl ⟨_, _, _, rfl, rfl, rfl⟩)
    | exact .inr (.inr (.inl ⟨_, _, _, rfl, rfl, rfl⟩))

/-! ### Lengths -/

/-- The length of a pattern of the opcode map. -/
def Pattern.length (p : Pattern) : Nat :=
  match p with
  | .whole _ => 1
  | .imm8 _ => 2
  | .imm16 _ => 3
  | .extended => 2

theorem opLength_eq (op : Byte) : opLength op = (decodeFirst op).length := by
  apply Byte.forall_of_fin (p := fun op => opLength op = (decodeFirst op).length)
  intro n
  fin_cases n <;> rfl

end Sys2Proof
end

