-- ==== Sys2Proof/Laws/Shape.lean ====
section
/-! SUPPORT. The 511 instructions by shape: the shared operation each meaning is, with its operands. A proof
about every instruction splits over the 54 shapes, not over the 511 constructors. -/

namespace Sys2Proof.Machine

/-- The shared operations of the meanings, with their operands. -/
inductive Shape where
  | nop
  | halt
  | stop (n : Byte)
  | writeIme (v : Bool)
  | illegal
  | alu (op : AluOp) (x : Operand8)
  | aluImm (op : AluOp) (n : Byte)
  | inc (x : Operand8)
  | dec (x : Operand8)
  | daa
  | cpl
  | scf
  | ccf
  | copy (dst src : Reg8)
  | loadHL (dst : Reg8)
  | storeHL (src : Reg8)
  | loadImm (dst : Reg8) (n : Byte)
  | storeImm (n : Byte)
  | storeAt (p : Pair)
  | loadAt (p : Pair)
  | storeStep (delta : Word)
  | loadStep (delta : Word)
  | storeHigh (n : Byte)
  | loadHigh (n : Byte)
  | storeHighC
  | loadHighC
  | storeAbs (addr : Word)
  | loadAbs (addr : Word)
  | loadPair (p : Pair) (n : Word)
  | storeSP (addr : Word)
  | spFromHL
  | push (p : StackPair)
  | pop (p : StackPair)
  | incPair (p : Pair)
  | decPair (p : Pair)
  | addHL (p : Pair)
  | addSP (e : Byte)
  | hlFromSP (e : Byte)
  | jump (t : Word)
  | jumpHL
  | jr (e : Byte)
  | jumpIf (k : Cond) (t : Word)
  | jrIf (k : Cond) (e : Byte)
  | call (t : Word)
  | callIf (k : Cond) (t : Word)
  | ret
  | retIf (k : Cond)
  | reti
  | rst (t : Word)
  | rotA (op : RotOp)
  | rot (op : RotOp) (x : Operand8)
  | bit (b : Fin 8) (x : Operand8)
  | res (b : Fin 8) (x : Operand8)
  | set (b : Fin 8) (x : Operand8)
  deriving DecidableEq, Repr

/-- What a shape does to the state. -/
def Shape.run (sh : Shape) (s : State) : State :=
  match sh with
  | .nop => s.noOperation
  | .halt => s.lowPower
  | .stop n => s.stopWith n
  | .writeIme v => s.setIme v
  | .illegal => s.signalUnimpl
  | .alu op x => s.aluOperand op x
  | .aluImm op n => s.applyAlu op n
  | .inc x => s.incrementOperand x
  | .dec x => s.decrementOperand x
  | .daa => s.adjustDecimal
  | .cpl => s.complementA
  | .scf => s.setCarry
  | .ccf => s.complementCarry
  | .copy dst src => s.copyRegister dst src
  | .loadHL dst => s.loadRegister dst s.hl
  | .storeHL src => s.memWrite s.hl (s.reg8 src)
  | .loadImm dst n => s.setReg8 dst n
  | .storeImm n => s.memWrite s.hl n
  | .storeAt p => s.storeA (s.pair p)
  | .loadAt p => s.loadRegister .a (s.pair p)
  | .storeStep delta => s.storeAStepHL delta
  | .loadStep delta => s.loadAStepHL delta
  | .storeHigh n => s.storeA (highPage n)
  | .loadHigh n => s.loadRegister .a (highPage n)
  | .storeHighC => s.storeA (highPage s.c)
  | .loadHighC => s.loadRegister .a (highPage s.c)
  | .storeAbs addr => s.storeA addr
  | .loadAbs addr => s.loadRegister .a addr
  | .loadPair p n => s.setPair p n
  | .storeSP addr => s.memWrite16 addr s.sp
  | .spFromHL => s.setPair .sp s.hl
  | .push p => s.pushPair p
  | .pop p => s.popPair p
  | .incPair p => s.incrementPair p
  | .decPair p => s.decrementPair p
  | .addHL p => s.addToHL p
  | .addSP e => s.addToSP e
  | .hlFromSP e => s.loadHLFromSP e
  | .jump t => s.jump t
  | .jumpHL => s.jump s.hl
  | .jr e => s.jump (s.relativeTarget e)
  | .jumpIf k t => s.jumpIf k t
  | .jrIf k e => s.jumpIf k (s.relativeTarget e)
  | .call t => s.call t
  | .callIf k t => s.callIf k t
  | .ret => s.returnTo
  | .retIf k => s.returnIf k
  | .reti => s.returnFromInterrupt
  | .rst t => s.restart t
  | .rotA op => s.rotateA op
  | .rot op x => s.rotateOperand op x
  | .bit b x => s.testBit b x
  | .res b x => s.resetBit b x
  | .set b x => s.assertBit b x

/-- The shape of an instruction. -/
def Instr.shape (i : Instr) : Shape :=
  match i with
  | .nop => .nop
  | .ldBCN16 n16 => .loadPair .bc n16
  | .ldAtBCA => .storeAt .bc
  | .incBC => .incPair .bc
  | .incB => .inc (.reg .b)
  | .decB => .dec (.reg .b)
  | .ldBN8 n8 => .loadImm .b n8
  | .rlca => .rotA .rlc
  | .ldAtA16SP a16 => .storeSP a16
  | .addHLBC => .addHL .bc
  | .ldAAtBC => .loadAt .bc
  | .decBC => .decPair .bc
  | .incC => .inc (.reg .c)
  | .decC => .dec (.reg .c)
  | .ldCN8 n8 => .loadImm .c n8
  | .rrca => .rotA .rrc
  | .stop n8 => .stop n8
  | .ldDEN16 n16 => .loadPair .de n16
  | .ldAtDEA => .storeAt .de
  | .incDE => .incPair .de
  | .incD => .inc (.reg .d)
  | .decD => .dec (.reg .d)
  | .ldDN8 n8 => .loadImm .d n8
  | .rla => .rotA .rl
  | .jrE8 e8 => .jr e8
  | .addHLDE => .addHL .de
  | .ldAAtDE => .loadAt .de
  | .decDE => .decPair .de
  | .incE => .inc (.reg .e)
  | .decE => .dec (.reg .e)
  | .ldEN8 n8 => .loadImm .e n8
  | .rra => .rotA .rr
  | .jrNZE8 e8 => .jrIf .nz e8
  | .ldHLN16 n16 => .loadPair .hl n16
  | .ldAtHLIncA => .storeStep 1
  | .incHL => .incPair .hl
  | .incH => .inc (.reg .h)
  | .decH => .dec (.reg .h)
  | .ldHN8 n8 => .loadImm .h n8
  | .daa => .daa
  | .jrZE8 e8 => .jrIf .z e8
  | .addHLHL => .addHL .hl
  | .ldAAtHLInc => .loadStep 1
  | .decHL => .decPair .hl
  | .incL => .inc (.reg .l)
  | .decL => .dec (.reg .l)
  | .ldLN8 n8 => .loadImm .l n8
  | .cpl => .cpl
  | .jrNCE8 e8 => .jrIf .nc e8
  | .ldSPN16 n16 => .loadPair .sp n16
  | .ldAtHLDecA => .storeStep (-1)
  | .incSP => .incPair .sp
  | .incAtHL => .inc .atHL
  | .decAtHL => .dec .atHL
  | .ldAtHLN8 n8 => .storeImm n8
  | .scf => .scf
  | .jrCE8 e8 => .jrIf .c e8
  | .addHLSP => .addHL .sp
  | .ldAAtHLDec => .loadStep (-1)
  | .decSP => .decPair .sp
  | .incA => .inc (.reg .a)
  | .decA => .dec (.reg .a)
  | .ldAN8 n8 => .loadImm .a n8
  | .ccf => .ccf
  | .ldBB => .copy .b .b
  | .ldBC => .copy .b .c
  | .ldBD => .copy .b .d
  | .ldBE => .copy .b .e
  | .ldBH => .copy .b .h
  | .ldBL => .copy .b .l
  | .ldBAtHL => .loadHL .b
  | .ldBA => .copy .b .a
  | .ldCB => .copy .c .b
  | .ldCC => .copy .c .c
  | .ldCD => .copy .c .d
  | .ldCE => .copy .c .e
  | .ldCH => .copy .c .h
  | .ldCL => .copy .c .l
  | .ldCAtHL => .loadHL .c
  | .ldCA => .copy .c .a
  | .ldDB => .copy .d .b
  | .ldDC => .copy .d .c
  | .ldDD => .copy .d .d
  | .ldDE => .copy .d .e
  | .ldDH => .copy .d .h
  | .ldDL => .copy .d .l
  | .ldDAtHL => .loadHL .d
  | .ldDA => .copy .d .a
  | .ldEB => .copy .e .b
  | .ldEC => .copy .e .c
  | .ldED => .copy .e .d
  | .ldEE => .copy .e .e
  | .ldEH => .copy .e .h
  | .ldEL => .copy .e .l
  | .ldEAtHL => .loadHL .e
  | .ldEA => .copy .e .a
  | .ldHB => .copy .h .b
  | .ldHC => .copy .h .c
  | .ldHD => .copy .h .d
  | .ldHE => .copy .h .e
  | .ldHH => .copy .h .h
  | .ldHL => .copy .h .l
  | .ldHAtHL => .loadHL .h
  | .ldHA => .copy .h .a
  | .ldLB => .copy .l .b
  | .ldLC => .copy .l .c
  | .ldLD => .copy .l .d
  | .ldLE => .copy .l .e
  | .ldLH => .copy .l .h
  | .ldLL => .copy .l .l
  | .ldLAtHL => .loadHL .l
  | .ldLA => .copy .l .a
  | .ldAtHLB => .storeHL .b
  | .ldAtHLC => .storeHL .c
  | .ldAtHLD => .storeHL .d
  | .ldAtHLE => .storeHL .e
  | .ldAtHLH => .storeHL .h
  | .ldAtHLL => .storeHL .l
  | .halt => .halt
  | .ldAtHLA => .storeHL .a
  | .ldAB => .copy .a .b
  | .ldAC => .copy .a .c
  | .ldAD => .copy .a .d
  | .ldAE => .copy .a .e
  | .ldAH => .copy .a .h
  | .ldAL => .copy .a .l
  | .ldAAtHL => .loadHL .a
  | .ldAA => .copy .a .a
  | .addAB => .alu .add (.reg .b)
  | .addAC => .alu .add (.reg .c)
  | .addAD => .alu .add (.reg .d)
  | .addAE => .alu .add (.reg .e)
  | .addAH => .alu .add (.reg .h)
  | .addAL => .alu .add (.reg .l)
  | .addAAtHL => .alu .add .atHL
  | .addAA => .alu .add (.reg .a)
  | .adcAB => .alu .adc (.reg .b)
  | .adcAC => .alu .adc (.reg .c)
  | .adcAD => .alu .adc (.reg .d)
  | .adcAE => .alu .adc (.reg .e)
  | .adcAH => .alu .adc (.reg .h)
  | .adcAL => .alu .adc (.reg .l)
  | .adcAAtHL => .alu .adc .atHL
  | .adcAA => .alu .adc (.reg .a)
  | .subB => .alu .sub (.reg .b)
  | .subC => .alu .sub (.reg .c)
  | .subD => .alu .sub (.reg .d)
  | .subE => .alu .sub (.reg .e)
  | .subH => .alu .sub (.reg .h)
  | .subL => .alu .sub (.reg .l)
  | .subAtHL => .alu .sub .atHL
  | .subA => .alu .sub (.reg .a)
  | .sbcAB => .alu .sbc (.reg .b)
  | .sbcAC => .alu .sbc (.reg .c)
  | .sbcAD => .alu .sbc (.reg .d)
  | .sbcAE => .alu .sbc (.reg .e)
  | .sbcAH => .alu .sbc (.reg .h)
  | .sbcAL => .alu .sbc (.reg .l)
  | .sbcAAtHL => .alu .sbc .atHL
  | .sbcAA => .alu .sbc (.reg .a)
  | .andB => .alu .and (.reg .b)
  | .andC => .alu .and (.reg .c)
  | .andD => .alu .and (.reg .d)
  | .andE => .alu .and (.reg .e)
  | .andH => .alu .and (.reg .h)
  | .andL => .alu .and (.reg .l)
  | .andAtHL => .alu .and .atHL
  | .andA => .alu .and (.reg .a)
  | .xorB => .alu .xor (.reg .b)
  | .xorC => .alu .xor (.reg .c)
  | .xorD => .alu .xor (.reg .d)
  | .xorE => .alu .xor (.reg .e)
  | .xorH => .alu .xor (.reg .h)
  | .xorL => .alu .xor (.reg .l)
  | .xorAtHL => .alu .xor .atHL
  | .xorA => .alu .xor (.reg .a)
  | .orB => .alu .or (.reg .b)
  | .orC => .alu .or (.reg .c)
  | .orD => .alu .or (.reg .d)
  | .orE => .alu .or (.reg .e)
  | .orH => .alu .or (.reg .h)
  | .orL => .alu .or (.reg .l)
  | .orAtHL => .alu .or .atHL
  | .orA => .alu .or (.reg .a)
  | .cpB => .alu .cp (.reg .b)
  | .cpC => .alu .cp (.reg .c)
  | .cpD => .alu .cp (.reg .d)
  | .cpE => .alu .cp (.reg .e)
  | .cpH => .alu .cp (.reg .h)
  | .cpL => .alu .cp (.reg .l)
  | .cpAtHL => .alu .cp .atHL
  | .cpA => .alu .cp (.reg .a)
  | .retNZ => .retIf .nz
  | .popBC => .pop .bc
  | .jpNZA16 a16 => .jumpIf .nz a16
  | .jpA16 a16 => .jump a16
  | .callNZA16 a16 => .callIf .nz a16
  | .pushBC => .push .bc
  | .addAN8 n8 => .aluImm .add n8
  | .rst00 => .rst 0x00
  | .retZ => .retIf .z
  | .ret => .ret
  | .jpZA16 a16 => .jumpIf .z a16
  | .callZA16 a16 => .callIf .z a16
  | .callA16 a16 => .call a16
  | .adcAN8 n8 => .aluImm .adc n8
  | .rst08 => .rst 0x08
  | .retNC => .retIf .nc
  | .popDE => .pop .de
  | .jpNCA16 a16 => .jumpIf .nc a16
  | .illegalD3 => .illegal
  | .callNCA16 a16 => .callIf .nc a16
  | .pushDE => .push .de
  | .subN8 n8 => .aluImm .sub n8
  | .rst10 => .rst 0x10
  | .retC => .retIf .c
  | .reti => .reti
  | .jpCA16 a16 => .jumpIf .c a16
  | .illegalDB => .illegal
  | .callCA16 a16 => .callIf .c a16
  | .illegalDD => .illegal
  | .sbcAN8 n8 => .aluImm .sbc n8
  | .rst18 => .rst 0x18
  | .ldhAtA8A a8 => .storeHigh a8
  | .popHL => .pop .hl
  | .ldhAtCA => .storeHighC
  | .illegalE3 => .illegal
  | .illegalE4 => .illegal
  | .pushHL => .push .hl
  | .andN8 n8 => .aluImm .and n8
  | .rst20 => .rst 0x20
  | .addSPE8 e8 => .addSP e8
  | .jpHL => .jumpHL
  | .ldAtA16A a16 => .storeAbs a16
  | .illegalEB => .illegal
  | .illegalEC => .illegal
  | .illegalED => .illegal
  | .xorN8 n8 => .aluImm .xor n8
  | .rst28 => .rst 0x28
  | .ldhAAtA8 a8 => .loadHigh a8
  | .popAF => .pop .af
  | .ldhAAtC => .loadHighC
  | .di => .writeIme false
  | .illegalF4 => .illegal
  | .pushAF => .push .af
  | .orN8 n8 => .aluImm .or n8
  | .rst30 => .rst 0x30
  | .ldHLSPE8 e8 => .hlFromSP e8
  | .ldSPHL => .spFromHL
  | .ldAAtA16 a16 => .loadAbs a16
  | .ei => .writeIme true
  | .illegalFC => .illegal
  | .illegalFD => .illegal
  | .cpN8 n8 => .aluImm .cp n8
  | .rst38 => .rst 0x38
  | .rlcB => .rot .rlc (.reg .b)
  | .rlcC => .rot .rlc (.reg .c)
  | .rlcD => .rot .rlc (.reg .d)
  | .rlcE => .rot .rlc (.reg .e)
  | .rlcH => .rot .rlc (.reg .h)
  | .rlcL => .rot .rlc (.reg .l)
  | .rlcAtHL => .rot .rlc .atHL
  | .rlcA => .rot .rlc (.reg .a)
  | .rrcB => .rot .rrc (.reg .b)
  | .rrcC => .rot .rrc (.reg .c)
  | .rrcD => .rot .rrc (.reg .d)
  | .rrcE => .rot .rrc (.reg .e)
  | .rrcH => .rot .rrc (.reg .h)
  | .rrcL => .rot .rrc (.reg .l)
  | .rrcAtHL => .rot .rrc .atHL
  | .rrcA => .rot .rrc (.reg .a)
  | .rlB => .rot .rl (.reg .b)
  | .rlC => .rot .rl (.reg .c)
  | .rlD => .rot .rl (.reg .d)
  | .rlE => .rot .rl (.reg .e)
  | .rlH => .rot .rl (.reg .h)
  | .rlL => .rot .rl (.reg .l)
  | .rlAtHL => .rot .rl .atHL
  | .rlA => .rot .rl (.reg .a)
  | .rrB => .rot .rr (.reg .b)
  | .rrC => .rot .rr (.reg .c)
  | .rrD => .rot .rr (.reg .d)
  | .rrE => .rot .rr (.reg .e)
  | .rrH => .rot .rr (.reg .h)
  | .rrL => .rot .rr (.reg .l)
  | .rrAtHL => .rot .rr .atHL
  | .rrA => .rot .rr (.reg .a)
  | .slaB => .rot .sla (.reg .b)
  | .slaC => .rot .sla (.reg .c)
  | .slaD => .rot .sla (.reg .d)
  | .slaE => .rot .sla (.reg .e)
  | .slaH => .rot .sla (.reg .h)
  | .slaL => .rot .sla (.reg .l)
  | .slaAtHL => .rot .sla .atHL
  | .slaA => .rot .sla (.reg .a)
  | .sraB => .rot .sra (.reg .b)
  | .sraC => .rot .sra (.reg .c)
  | .sraD => .rot .sra (.reg .d)
  | .sraE => .rot .sra (.reg .e)
  | .sraH => .rot .sra (.reg .h)
  | .sraL => .rot .sra (.reg .l)
  | .sraAtHL => .rot .sra .atHL
  | .sraA => .rot .sra (.reg .a)
  | .swapB => .rot .swap (.reg .b)
  | .swapC => .rot .swap (.reg .c)
  | .swapD => .rot .swap (.reg .d)
  | .swapE => .rot .swap (.reg .e)
  | .swapH => .rot .swap (.reg .h)
  | .swapL => .rot .swap (.reg .l)
  | .swapAtHL => .rot .swap .atHL
  | .swapA => .rot .swap (.reg .a)
  | .srlB => .rot .srl (.reg .b)
  | .srlC => .rot .srl (.reg .c)
  | .srlD => .rot .srl (.reg .d)
  | .srlE => .rot .srl (.reg .e)
  | .srlH => .rot .srl (.reg .h)
  | .srlL => .rot .srl (.reg .l)
  | .srlAtHL => .rot .srl .atHL
  | .srlA => .rot .srl (.reg .a)
  | .bit0B => .bit 0 (.reg .b)
  | .bit0C => .bit 0 (.reg .c)
  | .bit0D => .bit 0 (.reg .d)
  | .bit0E => .bit 0 (.reg .e)
  | .bit0H => .bit 0 (.reg .h)
  | .bit0L => .bit 0 (.reg .l)
  | .bit0AtHL => .bit 0 .atHL
  | .bit0A => .bit 0 (.reg .a)
  | .bit1B => .bit 1 (.reg .b)
  | .bit1C => .bit 1 (.reg .c)
  | .bit1D => .bit 1 (.reg .d)
  | .bit1E => .bit 1 (.reg .e)
  | .bit1H => .bit 1 (.reg .h)
  | .bit1L => .bit 1 (.reg .l)
  | .bit1AtHL => .bit 1 .atHL
  | .bit1A => .bit 1 (.reg .a)
  | .bit2B => .bit 2 (.reg .b)
  | .bit2C => .bit 2 (.reg .c)
  | .bit2D => .bit 2 (.reg .d)
  | .bit2E => .bit 2 (.reg .e)
  | .bit2H => .bit 2 (.reg .h)
  | .bit2L => .bit 2 (.reg .l)
  | .bit2AtHL => .bit 2 .atHL
  | .bit2A => .bit 2 (.reg .a)
  | .bit3B => .bit 3 (.reg .b)
  | .bit3C => .bit 3 (.reg .c)
  | .bit3D => .bit 3 (.reg .d)
  | .bit3E => .bit 3 (.reg .e)
  | .bit3H => .bit 3 (.reg .h)
  | .bit3L => .bit 3 (.reg .l)
  | .bit3AtHL => .bit 3 .atHL
  | .bit3A => .bit 3 (.reg .a)
  | .bit4B => .bit 4 (.reg .b)
  | .bit4C => .bit 4 (.reg .c)
  | .bit4D => .bit 4 (.reg .d)
  | .bit4E => .bit 4 (.reg .e)
  | .bit4H => .bit 4 (.reg .h)
  | .bit4L => .bit 4 (.reg .l)
  | .bit4AtHL => .bit 4 .atHL
  | .bit4A => .bit 4 (.reg .a)
  | .bit5B => .bit 5 (.reg .b)
  | .bit5C => .bit 5 (.reg .c)
  | .bit5D => .bit 5 (.reg .d)
  | .bit5E => .bit 5 (.reg .e)
  | .bit5H => .bit 5 (.reg .h)
  | .bit5L => .bit 5 (.reg .l)
  | .bit5AtHL => .bit 5 .atHL
  | .bit5A => .bit 5 (.reg .a)
  | .bit6B => .bit 6 (.reg .b)
  | .bit6C => .bit 6 (.reg .c)
  | .bit6D => .bit 6 (.reg .d)
  | .bit6E => .bit 6 (.reg .e)
  | .bit6H => .bit 6 (.reg .h)
  | .bit6L => .bit 6 (.reg .l)
  | .bit6AtHL => .bit 6 .atHL
  | .bit6A => .bit 6 (.reg .a)
  | .bit7B => .bit 7 (.reg .b)
  | .bit7C => .bit 7 (.reg .c)
  | .bit7D => .bit 7 (.reg .d)
  | .bit7E => .bit 7 (.reg .e)
  | .bit7H => .bit 7 (.reg .h)
  | .bit7L => .bit 7 (.reg .l)
  | .bit7AtHL => .bit 7 .atHL
  | .bit7A => .bit 7 (.reg .a)
  | .res0B => .res 0 (.reg .b)
  | .res0C => .res 0 (.reg .c)
  | .res0D => .res 0 (.reg .d)
  | .res0E => .res 0 (.reg .e)
  | .res0H => .res 0 (.reg .h)
  | .res0L => .res 0 (.reg .l)
  | .res0AtHL => .res 0 .atHL
  | .res0A => .res 0 (.reg .a)
  | .res1B => .res 1 (.reg .b)
  | .res1C => .res 1 (.reg .c)
  | .res1D => .res 1 (.reg .d)
  | .res1E => .res 1 (.reg .e)
  | .res1H => .res 1 (.reg .h)
  | .res1L => .res 1 (.reg .l)
  | .res1AtHL => .res 1 .atHL
  | .res1A => .res 1 (.reg .a)
  | .res2B => .res 2 (.reg .b)
  | .res2C => .res 2 (.reg .c)
  | .res2D => .res 2 (.reg .d)
  | .res2E => .res 2 (.reg .e)
  | .res2H => .res 2 (.reg .h)
  | .res2L => .res 2 (.reg .l)
  | .res2AtHL => .res 2 .atHL
  | .res2A => .res 2 (.reg .a)
  | .res3B => .res 3 (.reg .b)
  | .res3C => .res 3 (.reg .c)
  | .res3D => .res 3 (.reg .d)
  | .res3E => .res 3 (.reg .e)
  | .res3H => .res 3 (.reg .h)
  | .res3L => .res 3 (.reg .l)
  | .res3AtHL => .res 3 .atHL
  | .res3A => .res 3 (.reg .a)
  | .res4B => .res 4 (.reg .b)
  | .res4C => .res 4 (.reg .c)
  | .res4D => .res 4 (.reg .d)
  | .res4E => .res 4 (.reg .e)
  | .res4H => .res 4 (.reg .h)
  | .res4L => .res 4 (.reg .l)
  | .res4AtHL => .res 4 .atHL
  | .res4A => .res 4 (.reg .a)
  | .res5B => .res 5 (.reg .b)
  | .res5C => .res 5 (.reg .c)
  | .res5D => .res 5 (.reg .d)
  | .res5E => .res 5 (.reg .e)
  | .res5H => .res 5 (.reg .h)
  | .res5L => .res 5 (.reg .l)
  | .res5AtHL => .res 5 .atHL
  | .res5A => .res 5 (.reg .a)
  | .res6B => .res 6 (.reg .b)
  | .res6C => .res 6 (.reg .c)
  | .res6D => .res 6 (.reg .d)
  | .res6E => .res 6 (.reg .e)
  | .res6H => .res 6 (.reg .h)
  | .res6L => .res 6 (.reg .l)
  | .res6AtHL => .res 6 .atHL
  | .res6A => .res 6 (.reg .a)
  | .res7B => .res 7 (.reg .b)
  | .res7C => .res 7 (.reg .c)
  | .res7D => .res 7 (.reg .d)
  | .res7E => .res 7 (.reg .e)
  | .res7H => .res 7 (.reg .h)
  | .res7L => .res 7 (.reg .l)
  | .res7AtHL => .res 7 .atHL
  | .res7A => .res 7 (.reg .a)
  | .set0B => .set 0 (.reg .b)
  | .set0C => .set 0 (.reg .c)
  | .set0D => .set 0 (.reg .d)
  | .set0E => .set 0 (.reg .e)
  | .set0H => .set 0 (.reg .h)
  | .set0L => .set 0 (.reg .l)
  | .set0AtHL => .set 0 .atHL
  | .set0A => .set 0 (.reg .a)
  | .set1B => .set 1 (.reg .b)
  | .set1C => .set 1 (.reg .c)
  | .set1D => .set 1 (.reg .d)
  | .set1E => .set 1 (.reg .e)
  | .set1H => .set 1 (.reg .h)
  | .set1L => .set 1 (.reg .l)
  | .set1AtHL => .set 1 .atHL
  | .set1A => .set 1 (.reg .a)
  | .set2B => .set 2 (.reg .b)
  | .set2C => .set 2 (.reg .c)
  | .set2D => .set 2 (.reg .d)
  | .set2E => .set 2 (.reg .e)
  | .set2H => .set 2 (.reg .h)
  | .set2L => .set 2 (.reg .l)
  | .set2AtHL => .set 2 .atHL
  | .set2A => .set 2 (.reg .a)
  | .set3B => .set 3 (.reg .b)
  | .set3C => .set 3 (.reg .c)
  | .set3D => .set 3 (.reg .d)
  | .set3E => .set 3 (.reg .e)
  | .set3H => .set 3 (.reg .h)
  | .set3L => .set 3 (.reg .l)
  | .set3AtHL => .set 3 .atHL
  | .set3A => .set 3 (.reg .a)
  | .set4B => .set 4 (.reg .b)
  | .set4C => .set 4 (.reg .c)
  | .set4D => .set 4 (.reg .d)
  | .set4E => .set 4 (.reg .e)
  | .set4H => .set 4 (.reg .h)
  | .set4L => .set 4 (.reg .l)
  | .set4AtHL => .set 4 .atHL
  | .set4A => .set 4 (.reg .a)
  | .set5B => .set 5 (.reg .b)
  | .set5C => .set 5 (.reg .c)
  | .set5D => .set 5 (.reg .d)
  | .set5E => .set 5 (.reg .e)
  | .set5H => .set 5 (.reg .h)
  | .set5L => .set 5 (.reg .l)
  | .set5AtHL => .set 5 .atHL
  | .set5A => .set 5 (.reg .a)
  | .set6B => .set 6 (.reg .b)
  | .set6C => .set 6 (.reg .c)
  | .set6D => .set 6 (.reg .d)
  | .set6E => .set 6 (.reg .e)
  | .set6H => .set 6 (.reg .h)
  | .set6L => .set 6 (.reg .l)
  | .set6AtHL => .set 6 .atHL
  | .set6A => .set 6 (.reg .a)
  | .set7B => .set 7 (.reg .b)
  | .set7C => .set 7 (.reg .c)
  | .set7D => .set 7 (.reg .d)
  | .set7E => .set 7 (.reg .e)
  | .set7H => .set 7 (.reg .h)
  | .set7L => .set 7 (.reg .l)
  | .set7AtHL => .set 7 .atHL
  | .set7A => .set 7 (.reg .a)

/-- Every instruction runs its shape, in every state: no fault and no refusal (R800). -/
theorem exec_eq_run (i : Instr) (s : State) : exec i s = .next ((Instr.shape i).run s) := by
  cases i <;> rfl

end Sys2Proof.Machine
end

