-- ==== Sys2Proof/Laws/Exec.lean ====
section
/-! SUPPORT. What `exec` does with each family of Decode.lean, as its shared operation. -/

namespace Sys2Proof.Machine

theorem exec_mkLd (dst src : Reg8) (s : State) :
    exec (mkLd dst src) s = .next (s.copyRegister dst src) := by
  cases dst <;> cases src <;> rfl

theorem exec_mkLdFromHL (dst : Reg8) (s : State) :
    exec (mkLdFromHL dst) s = .next (s.loadRegister dst s.hl) := by cases dst <;> rfl

theorem exec_mkLdToHL (src : Reg8) (s : State) :
    exec (mkLdToHL src) s = .next (s.memWrite s.hl (s.reg8 src)) := by cases src <;> rfl

theorem exec_mkLdImm (dst : Reg8) (n : Byte) (s : State) :
    exec (mkLdImm dst n) s = .next (s.setReg8 dst n) := by cases dst <;> rfl

theorem exec_mkInc (x : Operand8) (s : State) : exec (mkInc x) s = .next (s.incrementOperand x) := by
  rcases x with r | _
  · cases r <;> rfl
  · rfl

theorem exec_mkDec (x : Operand8) (s : State) : exec (mkDec x) s = .next (s.decrementOperand x) := by
  rcases x with r | _
  · cases r <;> rfl
  · rfl

theorem exec_mkLdPair (p : Pair) (n : Word) (s : State) :
    exec (mkLdPair p n) s = .next (s.setPair p n) := by cases p <;> rfl

theorem exec_mkAddHL (p : Pair) (s : State) : exec (mkAddHL p) s = .next (s.addToHL p) := by
  cases p <;> rfl

theorem exec_mkIncPair (p : Pair) (s : State) : exec (mkIncPair p) s = .next (s.incrementPair p) := by
  cases p <;> rfl

theorem exec_mkDecPair (p : Pair) (s : State) : exec (mkDecPair p) s = .next (s.decrementPair p) := by
  cases p <;> rfl

theorem exec_mkPush (p : StackPair) (s : State) : exec (mkPush p) s = .next (s.pushPair p) := by
  cases p <;> rfl

theorem exec_mkPop (p : StackPair) (s : State) : exec (mkPop p) s = .next (s.popPair p) := by
  cases p <;> rfl

theorem exec_mkAlu (op : AluOp) (x : Operand8) (s : State) :
    exec (mkAlu op x) s = .next (s.aluOperand op x) := by
  rcases x with r | _
  · cases op <;> cases r <;> rfl
  · cases op <;> rfl

theorem exec_mkAluImm (op : AluOp) (n : Byte) (s : State) :
    exec (mkAluImm op n) s = .next (s.applyAlu op n) := by cases op <;> rfl

theorem exec_mkRot (op : RotOp) (x : Operand8) (s : State) :
    exec (mkRot op x) s = .next (s.rotateOperand op x) := by
  rcases x with r | _
  · cases op <;> cases r <;> rfl
  · cases op <;> rfl

theorem exec_mkBit (b : Fin 8) (x : Operand8) (s : State) :
    exec (mkBit b x) s = .next (s.testBit b x) := by
  rcases x with r | _
  · fin_cases b <;> cases r <;> rfl
  · fin_cases b <;> rfl

theorem exec_mkRes (b : Fin 8) (x : Operand8) (s : State) :
    exec (mkRes b x) s = .next (s.resetBit b x) := by
  rcases x with r | _
  · fin_cases b <;> cases r <;> rfl
  · fin_cases b <;> rfl

theorem exec_mkSet (b : Fin 8) (x : Operand8) (s : State) :
    exec (mkSet b x) s = .next (s.assertBit b x) := by
  rcases x with r | _
  · fin_cases b <;> cases r <;> rfl
  · fin_cases b <;> rfl

theorem exec_mkJp (k : Cond) (t : Word) (s : State) : exec (mkJp k t) s = .next (s.jumpIf k t) := by
  cases k <;> rfl

theorem exec_mkJr (k : Cond) (e : Byte) (s : State) :
    exec (mkJr k e) s = .next (s.jumpIf k (s.relativeTarget e)) := by cases k <;> rfl

theorem exec_mkCall (k : Cond) (t : Word) (s : State) :
    exec (mkCall k t) s = .next (s.callIf k t) := by cases k <;> rfl

theorem exec_mkRet (k : Cond) (s : State) : exec (mkRet k) s = .next (s.returnIf k) := by
  cases k <;> rfl

theorem exec_mkRst (y : Fin 8) (s : State) :
    exec (mkRst y) s = .next (s.restart (BitVec.ofNat 16 (8 * y.val))) := by
  fin_cases y <;> rfl

end Sys2Proof.Machine
end

