-- ==== Sys2Proof/Laws/Frame.lean ====
section
/-! SUPPORT. The frame of each shared operation: which items it may write and which bytes of memory it leaves;
and how frames compose. -/

namespace Sys2Proof.Machine

/-! ### Composition -/

theorem SameExcept.refl (written : List Item) (s : State) : SameExcept written s s := by
  intro x _; cases x <;> rfl

theorem SameExcept.trans {xs ys : List Item} {s t u : State} (h : SameExcept xs s t)
    (h' : SameExcept ys t u) : SameExcept (xs ++ ys) s u := by
  intro x hx
  simp only [List.mem_append, not_or] at hx
  have h1 := h x hx.1
  have h2 := h' x hx.2
  cases x <;> exact Eq.trans h2 h1

theorem SameExcept.mono {xs ys : List Item} {s t : State} (h : SameExcept xs s t) (hs : xs ⊆ ys) :
    SameExcept ys s t := fun x hx => h x fun hm => hx (hs hm)

theorem SameMemory.refl (s : State) : SameMemory s s := fun _ => rfl

theorem SameMemory.trans {s t u : State} (h : SameMemory s t) (h' : SameMemory t u) : SameMemory s u :=
  fun a => (h' a).trans (h a)

/-- A change of the state that leaves the arrays, `IE` and `IF` leaves every byte. -/
theorem SameMemory.of_eq {s t : State} (hm : t.mem = s.mem) (hie : t.ie = s.ie) (hif : t.iflag = s.iflag) :
    SameMemory s t := fun a => by simp only [State.byteAt, hm, hie, hif]

theorem SameMemory.except {s t : State} (h : SameMemory s t) (stored : List Word) :
    SameMemoryExcept stored s t := fun a _ => h a

theorem SameMemoryExcept.trans {xs ys : List Word} {s t u : State} (h : SameMemoryExcept xs s t)
    (h' : SameMemoryExcept ys t u) : SameMemoryExcept (xs ++ ys) s u := fun a ha => by
  simp only [List.mem_append, not_or] at ha
  exact (h' a ha.2).trans (h a ha.1)

/-! ### Accesses -/

theorem memRead_same (s : State) (a : Word) : SameExcept accessItems s (s.memRead a).2 := by
  intro x hx; cases x <;> simp_all [Item.same, accessItems, State.flagZ, State.flagN, State.flagH, State.flagC]

theorem memRead_sameMemory (s : State) (a : Word) : SameMemory s (s.memRead a).2 := by
  intro b; simp

theorem memWrite_same (s : State) (a : Word) (v : Byte) :
    SameExcept [.invalid, .history] s (s.memWrite a v) := by
  intro x hx; cases x <;> simp_all [Item.same, State.flagZ, State.flagN, State.flagH, State.flagC]

theorem memWrite_sameMemory (s : State) (a : Word) (v : Byte) :
    SameMemoryExcept [a] s (s.memWrite a v) := fun b hb =>
  memWrite_byteAt_other s (by simpa using hb) v

/-! ### Registers and flags -/

theorem setReg8_same (s : State) (r : Reg8) (v : Byte) : SameExcept [.reg r] s (s.setReg8 r v) := by
  intro x hx
  cases x with
  | reg q => exact setReg8_reg8_other s q r v fun h => hx (by simp [h])
  | _ => simp [Item.same, State.flagZ, State.flagN, State.flagH, State.flagC]

theorem setReg8_sameMemory (s : State) (r : Reg8) (v : Byte) : SameMemory s (s.setReg8 r v) :=
  .of_eq (by simp) (by simp) (by simp)

theorem setFlags_same (s : State) (z n h c : Bool) : SameExcept flagItems s (s.setFlags z n h c) := by
  intro x hx; cases x <;> simp_all [Item.same, flagItems]

theorem setFlags_sameMemory (s : State) (z n h c : Bool) : SameMemory s (s.setFlags z n h c) :=
  .of_eq rfl rfl rfl

theorem setPair_same (s : State) (p : Pair) (v : Word) : SameExcept (pairItems p) s (s.setPair p v) := by
  intro x hx
  cases p <;> cases x <;> try rfl
  all_goals first
    | (rename_i r; cases r <;> first | rfl | simp [pairItems] at hx)
    | simp [pairItems] at hx

theorem setPair_sameMemory (s : State) (p : Pair) (v : Word) : SameMemory s (s.setPair p v) :=
  .of_eq (by simp) (by simp) (by simp)

/-- A pair reads back what was written to it. -/
@[simp] theorem setPair_pair (s : State) (p : Pair) (v : Word) : (s.setPair p v).pair p = v := by
  cases p <;> simp [State.setPair, State.pair, State.bc, State.de, State.hl]

theorem setHL_same (s : State) (v : Word) : SameExcept [.reg .h, .reg .l] s (s.setHL v) :=
  setPair_same s .hl v

theorem setHL_sameMemory (s : State) (v : Word) : SameMemory s (s.setHL v) := .of_eq rfl rfl rfl

theorem jump_same (s : State) (t : Word) : SameExcept [.pc, .redirect] s (s.jump t) := by
  intro x hx; cases x <;> first | rfl | simp at hx

theorem jump_sameMemory (s : State) (t : Word) : SameMemory s (s.jump t) := .of_eq rfl rfl rfl

/-! ### The stack -/

/-- `Push16`: the bytes, in order (R88). -/
theorem push16_accesses (s : State) (v : Word) :
    Accesses [.write (s.sp - 1) (hiByte v), .write (s.sp - 2) (loByte v)] s (s.push16 v) := by
  have e : s.sp - 2 + 1 = s.sp - 1 := by bv_omega
  have h := (memWrite_accesses { s with sp := s.sp - 2 } (s.sp - 1) (hiByte v)).trans
    (memWrite_accesses _ (s.sp - 2) (loByte v))
  simp only [State.push16, e]
  exact h

theorem push16_same (s : State) (v : Word) : SameExcept [.sp, .invalid, .history] s (s.push16 v) := by
  intro x hx
  cases x with
  | reg r => cases r <;> simp [Item.same, State.reg8]
  | draws => simp [Item.same, State.push16]
  | _ => simp_all [Item.same, State.flagZ, State.flagN, State.flagH, State.flagC]

theorem push16_sameMemory (s : State) (v : Word) :
    SameMemoryExcept [s.sp - 1, s.sp - 2] s (s.push16 v) := by
  intro a ha
  have e : s.sp - 2 + 1 = s.sp - 1 := by bv_omega
  simp only [List.mem_cons, List.not_mem_nil, or_false, not_or] at ha
  simp only [State.push16, e]
  rw [memWrite_byteAt_other _ ha.2, memWrite_byteAt_other _ ha.1]
  rfl

theorem push16_stored (s : State) (v : Word) :
    Stored s (s.push16 v) (s.sp - 1) (hiByte v) ∧ Stored s (s.push16 v) (s.sp - 2) (loByte v) := by
  have e : s.sp - 2 + 1 = s.sp - 1 := by bv_omega
  have hne : s.sp - 1 ≠ s.sp - 2 := by bv_omega
  refine ⟨fun hw hr => ?_, fun hw hr => ?_⟩ <;> simp only [State.push16, e]
  · rw [memWrite_byteAt_other _ hne]
    exact memWrite_byteAt_same { s with sp := s.sp - 2 } _ _ hw hr
  · exact memWrite_byteAt_same _ _ _ (memWrite_mem_wf (s := { s with sp := s.sp - 2 }) hw _ _) hr

/-- `Pop16`: the bytes, in order (R89). -/
theorem pop16_accesses (s : State) : Accesses [.read s.sp, .read (s.sp + 1)] s s.pop16.2 := by
  have h := (memRead_accesses s s.sp).trans (memRead_accesses (s.memRead s.sp).2 (s.sp + 1))
  simpa [State.pop16, Accesses] using h

theorem pop16_same (s : State) : SameExcept (.sp :: accessItems) s s.pop16.2 := by
  intro x hx
  cases x with
  | reg r => cases r <;> simp [Item.same, State.reg8]
  | _ => simp_all [Item.same, accessItems, State.flagZ, State.flagN, State.flagH, State.flagC]

theorem pop16_sameMemory (s : State) : SameMemory s s.pop16.2 :=
  ((memRead_sameMemory s s.sp).trans (memRead_sameMemory _ (s.sp + 1))).trans (.of_eq rfl rfl rfl)

/-- `Pop16` returns what the two bytes read as (R89). -/
theorem pop16_readsAs (s : State) :
    ReadsAs s s.sp (loByte s.pop16.1) ∧ ReadsAs s (s.sp + 1) (hiByte s.pop16.1) := by
  simp only [State.pop16, hiByte_wordOf, loByte_wordOf]
  refine ⟨memRead_readsAs s s.sp, fun x hx => memRead_readsAs (s.memRead s.sp).2 (s.sp + 1) x ?_⟩
  simpa using hx

end Sys2Proof.Machine
end

