-- ==== Sys2Proof/Laws/Fetch.lean ====
section
/-! SUPPORT. The laws of the fetch (R98, R140): which bytes it reads, in which order, what it leaves, and
which instruction it gives. -/

namespace Sys2Proof.Machine

/-- The reads of `n` bytes from `a` on. -/
def readsFrom (a : Word) (n : Nat) : List AccessEvent :=
  (List.range n).map fun k => .read (a + BitVec.ofNat 16 k)

theorem readsFrom_one (a : Word) : readsFrom a 1 = [.read a] := by simp [readsFrom, List.range_succ]
theorem readsFrom_two (a : Word) : readsFrom a 2 = [.read a, .read (a + 1)] := by
  simp [readsFrom, List.range_succ]
theorem readsFrom_three (a : Word) : readsFrom a 3 = [.read a, .read (a + 1), .read (a + 1 + 1)] := by
  simp [readsFrom, List.range_succ, BitVec.add_assoc]

theorem memRead16_accesses (s : State) (a : Word) :
    Accesses [.read a, .read (a + 1)] s (s.memRead16 a).2 :=
  (memRead_accesses s a).trans (memRead_accesses _ (a + 1))

theorem memRead16_same (s : State) (a : Word) : SameExcept accessItems s (s.memRead16 a).2 :=
  ((memRead_same s a).trans (memRead_same _ (a + 1))).mono (by simp)

theorem memRead16_sameMemory (s : State) (a : Word) : SameMemory s (s.memRead16 a).2 :=
  (memRead_sameMemory s a).trans (memRead_sameMemory _ (a + 1))

/-- A fetch reads the bytes of the instruction, in order. -/
theorem fetch_accesses (s : State) :
    Accesses (readsFrom s.pc (opLength (s.memRead s.pc).1)) s s.fetch.2 := by
  simp only [opLength_eq, State.fetch]
  split <;> rename_i h <;> rw [h] <;> simp only [Pattern.length]
  · rw [readsFrom_one]; exact memRead_accesses s s.pc
  · rw [readsFrom_two]; exact (memRead_accesses s s.pc).trans (memRead_accesses _ _)
  · rw [readsFrom_three]; exact (memRead_accesses s s.pc).trans (memRead16_accesses _ _)
  · rw [readsFrom_two]; exact (memRead_accesses s s.pc).trans (memRead_accesses _ _)

theorem fetch_same (s : State) : SameExcept accessItems s s.fetch.2 := by
  simp only [State.fetch]
  split
  · exact memRead_same s s.pc
  · exact ((memRead_same s s.pc).trans (memRead_same _ _)).mono (by simp)
  · exact ((memRead_same s s.pc).trans (memRead16_same _ _)).mono (by simp)
  · exact ((memRead_same s s.pc).trans (memRead_same _ _)).mono (by simp)

theorem fetch_sameMemory (s : State) : SameMemory s s.fetch.2 := by
  simp only [State.fetch]
  split
  · exact memRead_sameMemory s s.pc
  · exact (memRead_sameMemory s s.pc).trans (memRead_sameMemory _ _)
  · exact (memRead_sameMemory s s.pc).trans (memRead16_sameMemory _ _)
  · exact (memRead_sameMemory s s.pc).trans (memRead_sameMemory _ _)

/-- A read of an address whose byte is known. -/
theorem memRead_of_byteAt {s : State} {a : Word} {v : Byte} (h : s.byteAt a = some v) :
    (s.memRead a).1 = v := memRead_readsAs s a v h

/-- A read of an address with a byte takes no draw. -/
theorem memRead_draws_of_byteAt {s : State} {a : Word} {v : Byte} (h : s.byteAt a = some v) :
    (s.memRead a).2.draws = s.draws := by
  have hu : unmapped a = false := by
    unfold unmapped
    revert h
    unfold State.byteAt
    cases region a <;> simp
  have := load_draws (s.record (.read a)) a
  simpa [State.memRead, hu] using this

/-- A read of any address but the scanline register leaves the arrays as they are. -/
theorem memRead_mem {s : State} {a : Word} (h : a ≠ 0xFF44) : (s.memRead a).2.mem = s.mem := by
  simp only [State.memRead, State.load]
  split <;> first | rfl | exact absurd (region_ly ‹_›) h

/-- What the fetch does with the bytes of an encoding. -/
theorem fetch_of_bytes {s : State} {i : Instr}
    (h : ∀ k, k < (encode i).length → s.byteAt (s.pc + BitVec.ofNat 16 k) = (encode i)[k]?) :
    s.fetch.1 = i ∧ s.fetch.2.draws = s.draws ∧
      ((∀ k, k < (encode i).length → s.pc + BitVec.ofNat 16 k ≠ 0xFF44) → s.fetch.2.mem = s.mem) ∧
      Accesses (readsFrom s.pc (encode i).length) s s.fetch.2 := by
  rcases encode_cases i with ⟨op, he, hd⟩ | ⟨op, f, n, he, hd, rfl⟩ | ⟨op, f, n, he, hd, rfl⟩ | ⟨op, he, rfl⟩
  all_goals
    have h0 := h 0 (by simp [he])
    simp only [BitVec.ofNat_eq_ofNat, BitVec.add_zero, he, List.getElem?_cons_zero] at h0
    have ha := fetch_accesses s
    rw [memRead_of_byteAt h0] at ha
    rw [opLength_eq] at ha
  · rw [hd] at ha
    refine ⟨?_, ?_, fun hm => ?_, by rw [he]; exact ha⟩ <;>
      simp only [State.fetch, memRead_of_byteAt h0, hd, memRead_draws_of_byteAt h0]
    exact memRead_mem (by simpa using hm 0 (by simp [he]))
  · have h1 := h 1 (by simp [he])
    have h1' : (s.memRead s.pc).2.byteAt (s.pc + 1) = some n := by simpa [he] using h1
    rw [hd] at ha
    refine ⟨?_, ?_, fun hm => ?_, by rw [he]; exact ha⟩ <;>
      simp only [State.fetch, memRead_of_byteAt h0, hd, memRead_of_byteAt h1', memRead_draws_of_byteAt h0,
        memRead_draws_of_byteAt h1']
    rw [memRead_mem (by simpa using hm 1 (by simp [he])), memRead_mem (by simpa using hm 0 (by simp [he]))]
  · have h1 := h 1 (by simp [he])
    have h2 := h 2 (by simp [he])
    have h1' : (s.memRead s.pc).2.byteAt (s.pc + 1) = some (loByte n) := by simpa [he] using h1
    have h2' : ((s.memRead s.pc).2.memRead (s.pc + 1)).2.byteAt (s.pc + 1 + 1) = some (hiByte n) := by
      simpa [he, BitVec.add_assoc] using h2
    rw [hd] at ha
    refine ⟨?_, ?_, fun hm => ?_, by rw [he]; exact ha⟩ <;>
      simp only [State.fetch, State.memRead16, memRead_of_byteAt h0, hd, memRead_of_byteAt h1',
        memRead_of_byteAt h2', memRead_draws_of_byteAt h0, memRead_draws_of_byteAt h1',
        memRead_draws_of_byteAt h2', wordOf_hiByte_loByte]
    rw [memRead_mem (by simpa [BitVec.add_assoc] using hm 2 (by simp [he])),
      memRead_mem (by simpa using hm 1 (by simp [he])), memRead_mem (by simpa using hm 0 (by simp [he]))]
  · have h1 := h 1 (by simp [he])
    have h1' : (s.memRead s.pc).2.byteAt (s.pc + 1) = some op := by simpa [he] using h1
    have hd : decodeFirst 203#8 = .extended := rfl
    rw [hd] at ha
    refine ⟨?_, ?_, fun hm => ?_, by rw [he]; exact ha⟩ <;>
      simp only [State.fetch, memRead_of_byteAt h0, hd, memRead_of_byteAt h1', memRead_draws_of_byteAt h0,
        memRead_draws_of_byteAt h1']
    rw [memRead_mem (by simpa using hm 1 (by simp [he])), memRead_mem (by simpa using hm 0 (by simp [he]))]

end Sys2Proof.Machine
end

