-- ==== Sys2Proof/Laws/Run.lean ====
section
/-! SUPPORT. Everything an instruction and a step can do, said once over the shapes: the items an instruction
may write, the accesses it makes, and that memory changes by its recorded writes alone. -/

namespace Sys2Proof.Machine

/-! ### The items an instruction may write -/

/-- The items `POP` writes besides those of the access. -/
def stackPairItems (p : StackPair) : List Item :=
  match p with
  | .bc => [.reg .b, .reg .c]
  | .de => [.reg .d, .reg .e]
  | .hl => [.reg .h, .reg .l]
  | .af => .reg .a :: flagItems

/-- The items written by a write to an operand. -/
def operandItems (x : Operand8) : List Item :=
  match x with
  | .reg r => [.reg r]
  | .atHL => [.invalid, .history]

/-- The items an instruction of a shape may write. -/
def Shape.writes (sh : Shape) : List Item :=
  match sh with
  | .nop => []
  | .halt | .stop _ => [.halted]
  | .writeIme _ => [.ime]
  | .illegal => [.unimpl]
  | .alu _ _ => .reg .a :: flagItems ++ accessItems
  | .aluImm _ _ | .daa | .cpl | .rotA _ => .reg .a :: flagItems
  | .inc x | .dec x | .rot _ x => operandItems x ++ flagItems ++ accessItems
  | .scf | .ccf => flagItems
  | .copy dst _ | .loadImm dst _ => [.reg dst]
  | .loadHL dst => .reg dst :: accessItems
  | .storeHL _ | .storeImm _ | .storeAt _ | .storeHigh _ | .storeHighC | .storeAbs _ | .storeSP _ =>
    [.invalid, .history]
  | .loadAt _ | .loadHigh _ | .loadHighC | .loadAbs _ => .reg .a :: accessItems
  | .storeStep _ => [.reg .h, .reg .l, .invalid, .history]
  | .loadStep _ => .reg .a :: .reg .h :: .reg .l :: accessItems
  | .loadPair p _ | .incPair p | .decPair p => pairItems p
  | .spFromHL => [.sp]
  | .push _ => [.sp, .invalid, .history]
  | .pop p => .sp :: accessItems ++ stackPairItems p
  | .addHL _ | .hlFromSP _ => .reg .h :: .reg .l :: flagItems
  | .addSP _ => .sp :: flagItems
  | .jump _ | .jumpHL | .jr _ | .jumpIf _ _ | .jrIf _ _ => [.pc, .redirect]
  | .call _ | .callIf _ _ | .rst _ => [.sp, .invalid, .history, .pc, .redirect]
  | .ret | .retIf _ => .sp :: accessItems ++ [.pc, .redirect]
  | .reti => .sp :: accessItems ++ [.pc, .redirect, .ime]
  | .bit _ _ => flagItems ++ accessItems
  | .res _ x | .set _ x => operandItems x ++ accessItems

theorem readOperand_same (s : State) (x : Operand8) : SameExcept accessItems s (s.readOperand x).2 := by
  cases x with
  | reg r => exact .refl _ s
  | atHL => exact memRead_same s s.hl

theorem writeOperand_same (s : State) (x : Operand8) (v : Byte) :
    SameExcept (operandItems x) s (s.writeOperand x v) := by
  cases x with
  | reg r => exact setReg8_same s r v
  | atHL => exact memWrite_same s s.hl v

theorem setA_same (s : State) (v : Byte) : SameExcept [.reg .a] s { s with a := v } := setReg8_same s .a v

theorem setAF_same (s : State) (v : Word) : SameExcept (.reg .a :: flagItems) s (s.setAF v) := by
  intro x hx
  cases x with
  | reg r => cases r <;> first | rfl | simp at hx
  | _ => first | rfl | simp [flagItems] at hx

theorem setStackPair_same (s : State) (p : StackPair) (v : Word) :
    SameExcept (stackPairItems p) s (s.setStackPair p v) := by
  cases p with
  | bc => exact setPair_same s .bc v
  | de => exact setPair_same s .de v
  | hl => exact setPair_same s .hl v
  | af => exact setAF_same s v

theorem applyAlu_same (s : State) (op : AluOp) (v : Byte) :
    SameExcept (.reg .a :: flagItems) s (s.applyAlu op v) := by
  have h := setFlags_same s (alu op s.a v s.flagC).z (alu op s.a v s.flagC).n (alu op s.a v s.flagC).h
    (alu op s.a v s.flagC).c
  have h2 := (h.trans (setA_same _ (alu op s.a v s.flagC).res)).mono
    (ys := .reg .a :: flagItems) (by intro x; simp; tauto)
  cases op <;> first | exact h2 | exact h.mono (by simp)

/-- A change of operand, then of flags. -/
theorem modify_same (s : State) (x : Operand8) (v : Byte) (z n h c : Bool) :
    SameExcept (operandItems x ++ flagItems ++ accessItems) s
      (((s.readOperand x).2.writeOperand x v).setFlags z n h c) :=
  (((readOperand_same s x).trans (writeOperand_same _ x v)).trans (setFlags_same _ z n h c)).mono
    (by intro y; simp; tauto)

theorem returnTo_same (s : State) : SameExcept (.sp :: accessItems ++ [.pc, .redirect]) s s.returnTo :=
  (pop16_same s).trans (jump_same _ _)

/-- The frame of every instruction: what it may write besides memory. -/
theorem run_same (sh : Shape) (s : State) : SameExcept sh.writes s (sh.run s) := by
  have cond : ∀ (b : Bool) (L : List Item) (t : State), SameExcept L s t →
      SameExcept L s (if b = true then t else s) := fun b L t h => by
    cases b
    · exact .refl L s
    · exact h
  cases sh with
  | nop => exact .refl _ s
  | halt => intro x hx; cases x <;> first | rfl | simp [Shape.writes] at hx
  | stop n => intro x hx; cases x <;> first | rfl | simp [Shape.writes] at hx
  | writeIme v => intro x hx; cases x <;> first | rfl | simp [Shape.writes] at hx
  | illegal => intro x hx; cases x <;> first | rfl | simp [Shape.writes] at hx
  | alu op x =>
    exact ((readOperand_same s x).trans (applyAlu_same _ op _)).mono
      (by intro y; simp [Shape.writes]; tauto)
  | aluImm op n => exact applyAlu_same s op n
  | inc x => exact modify_same s x _ _ _ _ _
  | dec x => exact modify_same s x _ _ _ _ _
  | rot op x => exact modify_same s x _ _ _ _ _
  | daa => exact (setA_same s _).trans (setFlags_same _ _ _ _ _)
  | cpl => exact (setA_same s _).trans (setFlags_same _ _ _ _ _)
  | scf => exact setFlags_same s _ _ _ _
  | ccf => exact setFlags_same s _ _ _ _
  | copy dst src => exact setReg8_same s dst _
  | loadHL dst =>
    exact ((memRead_same s s.hl).trans (setReg8_same _ dst _)).mono (by intro y; simp [Shape.writes]; tauto)
  | storeHL src => exact memWrite_same s _ _
  | loadImm dst n => exact setReg8_same s dst n
  | storeImm n => exact memWrite_same s _ _
  | storeAt p => exact memWrite_same s _ _
  | loadAt p =>
    exact ((memRead_same s _).trans (setReg8_same _ .a _)).mono (by intro y; simp [Shape.writes]; tauto)
  | storeStep d =>
    exact ((memWrite_same s _ _).trans (setHL_same _ _)).mono (by intro y; simp [Shape.writes]; tauto)
  | loadStep d =>
    exact (((memRead_same s _).trans (setReg8_same _ .a _)).trans (setHL_same _ _)).mono
      (by intro y; simp [Shape.writes]; tauto)
  | storeHigh n => exact memWrite_same s _ _
  | loadHigh n =>
    exact ((memRead_same s _).trans (setReg8_same _ .a _)).mono (by intro y; simp [Shape.writes]; tauto)
  | storeHighC => exact memWrite_same s _ _
  | loadHighC =>
    exact ((memRead_same s _).trans (setReg8_same _ .a _)).mono (by intro y; simp [Shape.writes]; tauto)
  | storeAbs a => exact memWrite_same s _ _
  | loadAbs a =>
    exact ((memRead_same s _).trans (setReg8_same _ .a _)).mono (by intro y; simp [Shape.writes]; tauto)
  | loadPair p n => exact setPair_same s p n
  | storeSP a => exact ((memWrite_same s _ _).trans (memWrite_same _ _ _)).mono (by simp [Shape.writes])
  | spFromHL => exact setPair_same s .sp _
  | push p => exact push16_same s _
  | pop p => exact (pop16_same s).trans (setStackPair_same _ p _)
  | incPair p => exact setPair_same s p _
  | decPair p => exact setPair_same s p _
  | addHL p => exact (setHL_same s _).trans (setFlags_same _ _ _ _ _)
  | addSP e => exact (setPair_same s .sp _).trans (setFlags_same _ _ _ _ _)
  | hlFromSP e => exact (setHL_same s _).trans (setFlags_same _ _ _ _ _)
  | jump t => exact jump_same s t
  | jumpHL => exact jump_same s _
  | jr e => exact jump_same s _
  | jumpIf k t => exact cond _ _ _ (jump_same s t)
  | jrIf k e => exact cond _ _ _ (jump_same s _)
  | call t => exact (push16_same s _).trans (jump_same _ _)
  | callIf k t => exact cond _ _ _ ((push16_same s _).trans (jump_same _ _))
  | ret => exact returnTo_same s
  | retIf k => exact cond _ _ _ (returnTo_same s)
  | reti =>
    have h := (returnTo_same s).mono (ys := Shape.reti.writes) (by intro y; simp [Shape.writes]; tauto)
    intro x hx
    have := h x hx
    cases x <;> first | exact this | simp [Shape.writes] at hx
  | rst t => exact (push16_same s _).trans (jump_same _ _)
  | rotA op => exact (setA_same s _).trans (setFlags_same _ _ _ _ _)
  | bit b x =>
    exact ((readOperand_same s x).trans (setFlags_same _ _ _ _ _)).mono
      (by intro y; simp [Shape.writes]; tauto)
  | res b x =>
    exact ((readOperand_same s x).trans (writeOperand_same _ x _)).mono
      (by intro y; simp [Shape.writes]; tauto)
  | set b x =>
    exact ((readOperand_same s x).trans (writeOperand_same _ x _)).mono
      (by intro y; simp [Shape.writes]; tauto)

/-! ### The step -/

/-- A step as one equation (R143, R144). -/
theorem step_eq (s : State) :
    step s = .next (if s.halted then s.capture.idle
      else (Shape.run (Instr.shape s.capture.fetch.1) s.capture.fetch.2).finish s.capture.fetch.1) := by
  simp only [step, exec_eq_run, capture_halted]
  split <;> rfl

theorem finish_same (s : State) (i : Instr) : SameExcept [.pc, .redirect, .icount] s (s.finish i) := by
  intro x hx
  simp only [State.finish, State.advance]
  split <;> cases x <;> first | rfl | simp at hx

theorem capture_same (s : State) : SameExcept [.snap] s s.capture := by
  intro x hx
  cases x <;> first | rfl | simp at hx

/-! ### What an instruction and a step do to memory -/

/-- From `s` to `t` the accesses `evs` were made; the canonical form of the memory and the place of its cells
are kept; and a byte changed by a write among them alone. -/
structure Traced (evs : List AccessEvent) (s t : State) : Prop where
  acc : Accesses evs s t
  wf : s.mem.wf → t.mem.wf
  cells : (∀ cell ∈ s.mem, arrayCell cell.1 = true) → ∀ cell ∈ t.mem, arrayCell cell.1 = true
  mem : s.mem.wf → ∀ a v, t.byteAt a = some v → s.byteAt a ≠ some v → AccessEvent.write a v ∈ evs

theorem Traced.trans {xs ys : List AccessEvent} {s t u : State} (h : Traced xs s t) (h' : Traced ys t u) :
    Traced (xs ++ ys) s u where
  acc := h.acc.trans h'.acc
  wf := h'.wf ∘ h.wf
  cells := h'.cells ∘ h.cells
  mem hw a v h1 h2 := by
    by_cases ht : t.byteAt a = some v
    · exact List.mem_append_left _ (h.mem hw a v ht h2)
    · exact List.mem_append_right _ (h'.mem (h.wf hw) a v h1 ht)

/-- The two states have the same memory, history and signal. -/
def SameBus (s t : State) : Prop :=
  t.mem = s.mem ∧ t.ie = s.ie ∧ t.iflag = s.iflag ∧ t.history = s.history ∧ t.invalid = s.invalid

theorem SameBus.traced {s t : State} (h : SameBus s t) : Traced [] s t := by
  obtain ⟨hm, hie, hif, hh, hi⟩ := h
  exact { acc := (accesses_nil s).congr hh hi
          wf := fun h => by rwa [hm]
          cells := fun h => by rwa [hm]
          mem := fun _ a v h1 h2 => absurd (by rwa [SameMemory.of_eq hm hie hif a] at h1) h2 }

/-- Some sequence of accesses leads from `s` to `t`. -/
def Traces (s t : State) : Prop := ∃ evs, Traced evs s t

theorem Traces.trans {s t u : State} (h : Traces s t) (h' : Traces t u) : Traces s u := by
  obtain ⟨xs, h⟩ := h
  obtain ⟨ys, h'⟩ := h'
  exact ⟨_, h.trans h'⟩

theorem SameBus.traces {s t : State} (h : SameBus s t) : Traces s t := ⟨_, h.traced⟩

theorem arrayCell_plain (a : Word) (h : plainRegion (region a) = true) : arrayCell a.toNat = true := by
  have := a.isLt
  have e : BitVec.ofNat 16 a.toNat = a := by simp
  revert h
  simp only [arrayCell, e]
  cases region a <;> simp [plainRegion] <;> omega

theorem arrayCell_ly : arrayCell lyCell = true := by decide

theorem Memory.set_cells {m : Memory} {k : Nat} {v : Byte} (hk : arrayCell k = true)
    (h : ∀ cell ∈ m, arrayCell cell.1 = true) : ∀ cell ∈ m.set k v, arrayCell cell.1 = true := by
  intro cell hc
  rcases Memory.mem_set hc with hc | ⟨rfl, -⟩
  · exact h _ hc
  · exact hk

theorem load_cells {s : State} (h : ∀ cell ∈ s.mem, arrayCell cell.1 = true) (a : Word) :
    ∀ cell ∈ (s.load a).2.mem, arrayCell cell.1 = true := by
  simp only [State.load]
  split <;> first | exact h | exact Memory.set_cells arrayCell_ly h

theorem store_cells {s : State} (h : ∀ cell ∈ s.mem, arrayCell cell.1 = true) (a : Word) (v : Byte) :
    ∀ cell ∈ (s.store a v).mem, arrayCell cell.1 = true := by
  simp only [State.store]
  split <;> first
    | exact h
    | exact Memory.set_cells arrayCell_ly (Memory.set_cells arrayCell_ly h)
    | exact Memory.set_cells (arrayCell_plain a (by simp [*, plainRegion])) h

theorem memRead_traces (s : State) (a : Word) : Traces s (s.memRead a).2 :=
  ⟨[.read a],
    { acc := memRead_accesses s a
      wf := fun h => memRead_mem_wf h a
      cells := fun h => load_cells (s := s.record (.read a)) h a
      mem := fun _ b v h1 h2 => absurd (by simpa using h1) h2 }⟩

/-- An address that does not keep what is stored reads the same after every write to it. -/
theorem memWrite_byteAt_not_retains {s : State} {a : Word} (h : retains a = false) (v : Byte) :
    (s.memWrite a v).byteAt a = s.byteAt a := by
  revert h
  simp only [retains, unmapped, State.byteAt]
  cases region a <;> simp

theorem memWrite_traces (s : State) (a : Word) (v : Byte) : Traces s (s.memWrite a v) := by
  refine ⟨[.write a v], memWrite_accesses s a v, fun h => memWrite_mem_wf h a v,
    fun h => store_cells (s := s.record (.write a v)) h a v, fun hw b w h1 h2 => ?_⟩
  by_cases hb : b = a
  · subst hb
    by_cases hr : retains b = true
    · rw [memWrite_byteAt_same s b v hw hr] at h1
      simp at h1; simp [h1]
    · rw [memWrite_byteAt_not_retains (by simpa using hr)] at h1
      exact absurd h1 h2
  · rw [memWrite_byteAt_other s hb] at h1
    exact absurd h1 h2

theorem readOperand_traces (s : State) (x : Operand8) : Traces s (s.readOperand x).2 := by
  cases x with
  | reg r => exact SameBus.traces ⟨rfl, rfl, rfl, rfl, rfl⟩
  | atHL => exact memRead_traces s s.hl

theorem writeOperand_traces (s : State) (x : Operand8) (v : Byte) : Traces s (s.writeOperand x v) := by
  cases x with
  | reg r => exact SameBus.traces (by simp [SameBus, State.writeOperand])
  | atHL => exact memWrite_traces s s.hl v

theorem push16_traces (s : State) (v : Word) : Traces s (s.push16 v) := by
  have h0 : Traces s { s with sp := s.sp - 2 } := SameBus.traces ⟨rfl, rfl, rfl, rfl, rfl⟩
  exact (h0.trans (memWrite_traces _ (s.sp - 2 + 1) (hiByte v))).trans (memWrite_traces _ _ _)

theorem pop16_traces (s : State) : Traces s s.pop16.2 :=
  ((memRead_traces s s.sp).trans (memRead_traces _ (s.sp + 1))).trans
    (SameBus.traces ⟨rfl, rfl, rfl, rfl, rfl⟩)

theorem applyAlu_sameBus (s : State) (op : AluOp) (v : Byte) : SameBus s (s.applyAlu op v) := by
  cases op <;> exact ⟨rfl, rfl, rfl, rfl, rfl⟩

theorem fetch_traces (s : State) : Traces s s.fetch.2 := by
  simp only [State.fetch]
  split
  · exact memRead_traces s s.pc
  · exact (memRead_traces s s.pc).trans (memRead_traces _ _)
  · exact (memRead_traces s s.pc).trans ((memRead_traces _ _).trans (memRead_traces _ _))
  · exact (memRead_traces s s.pc).trans (memRead_traces _ _)

theorem finish_sameBus (s : State) (i : Instr) : SameBus s (s.finish i) := by
  simp only [State.finish, State.advance]
  split <;> exact ⟨rfl, rfl, rfl, rfl, rfl⟩

/-- Every instruction changes memory by recorded writes alone. -/
theorem run_traces (sh : Shape) (s : State) : Traces s (sh.run s) := by
  have same : ∀ u, SameBus s u → Traces s u := fun u h => h.traces
  have modify : ∀ (x : Operand8) (w : Byte) (u : State),
      SameBus ((s.readOperand x).2.writeOperand x w) u → Traces s u := fun x w u h =>
    ((readOperand_traces s x).trans (writeOperand_traces _ x w)).trans h.traces
  have push : ∀ (v : Word) (u : State), SameBus (s.push16 v) u → Traces s u := fun v u h =>
    (push16_traces s v).trans h.traces
  have pop : ∀ u : State, SameBus s.pop16.2 u → Traces s u := fun u h => (pop16_traces s).trans h.traces
  have read : ∀ (a : Word) (u : State), SameBus (s.memRead a).2 u → Traces s u := fun a u h =>
    (memRead_traces s a).trans h.traces
  have write : ∀ (a : Word) (v : Byte) (u : State), SameBus (s.memWrite a v) u → Traces s u :=
    fun a v u h => (memWrite_traces s a v).trans h.traces
  cases sh with
  | alu op x => exact (readOperand_traces s x).trans (applyAlu_sameBus _ _ _).traces
  | aluImm op n => exact same _ (applyAlu_sameBus _ _ _)
  | inc x => exact modify x _ _ ⟨rfl, rfl, rfl, rfl, rfl⟩
  | dec x => exact modify x _ _ ⟨rfl, rfl, rfl, rfl, rfl⟩
  | rot op x => exact modify x _ _ ⟨rfl, rfl, rfl, rfl, rfl⟩
  | res b x => exact modify x _ _ ⟨rfl, rfl, rfl, rfl, rfl⟩
  | set b x => exact modify x _ _ ⟨rfl, rfl, rfl, rfl, rfl⟩
  | bit b x => exact (readOperand_traces s x).trans (SameBus.traces ⟨rfl, rfl, rfl, rfl, rfl⟩)
  | copy dst src => exact same _ (by simp [Shape.run, State.copyRegister, SameBus])
  | loadHL dst => exact read s.hl _ (by simp [Shape.run, State.loadRegister, SameBus])
  | loadAt p => exact read (s.pair p) _ ⟨rfl, rfl, rfl, rfl, rfl⟩
  | loadStep d => exact read s.hl _ ⟨rfl, rfl, rfl, rfl, rfl⟩
  | loadHigh n => exact read (highPage n) _ ⟨rfl, rfl, rfl, rfl, rfl⟩
  | loadHighC => exact read (highPage s.c) _ ⟨rfl, rfl, rfl, rfl, rfl⟩
  | loadAbs a => exact read a _ ⟨rfl, rfl, rfl, rfl, rfl⟩
  | storeHL r => exact write s.hl (s.reg8 r) _ ⟨rfl, rfl, rfl, rfl, rfl⟩
  | storeImm n => exact write s.hl n _ ⟨rfl, rfl, rfl, rfl, rfl⟩
  | storeAt p => exact write (s.pair p) s.a _ ⟨rfl, rfl, rfl, rfl, rfl⟩
  | storeStep d => exact write s.hl s.a _ ⟨rfl, rfl, rfl, rfl, rfl⟩
  | storeHigh n => exact write (highPage n) s.a _ ⟨rfl, rfl, rfl, rfl, rfl⟩
  | storeHighC => exact write (highPage s.c) s.a _ ⟨rfl, rfl, rfl, rfl, rfl⟩
  | storeAbs a => exact write a s.a _ ⟨rfl, rfl, rfl, rfl, rfl⟩
  | storeSP a => exact (memWrite_traces s a _).trans (memWrite_traces _ _ _)
  | push p => exact push (s.stackPair p) _ ⟨rfl, rfl, rfl, rfl, rfl⟩
  | pop p => exact pop _ (by cases p <;> exact ⟨rfl, rfl, rfl, rfl, rfl⟩)
  | call t => exact push (s.pc + 3) _ ⟨rfl, rfl, rfl, rfl, rfl⟩
  | rst t => exact push (s.pc + 1) _ ⟨rfl, rfl, rfl, rfl, rfl⟩
  | ret => exact pop _ ⟨rfl, rfl, rfl, rfl, rfl⟩
  | reti => exact pop _ ⟨rfl, rfl, rfl, rfl, rfl⟩
  | callIf k t =>
    simp only [Shape.run, State.callIf]
    split
    · exact push (s.pc + 3) _ ⟨rfl, rfl, rfl, rfl, rfl⟩
    · exact same _ ⟨rfl, rfl, rfl, rfl, rfl⟩
  | retIf k =>
    simp only [Shape.run, State.returnIf]
    split
    · exact pop _ ⟨rfl, rfl, rfl, rfl, rfl⟩
    · exact same _ ⟨rfl, rfl, rfl, rfl, rfl⟩
  | jumpIf k t => simp only [Shape.run, State.jumpIf]; split <;> exact same _ ⟨rfl, rfl, rfl, rfl, rfl⟩
  | jrIf k e => simp only [Shape.run, State.jumpIf]; split <;> exact same _ ⟨rfl, rfl, rfl, rfl, rfl⟩
  | loadImm dst n => exact same _ (by simp [Shape.run, SameBus])
  | loadPair p n => exact same _ (by simp [Shape.run, SameBus])
  | incPair p => exact same _ (by simp [Shape.run, State.incrementPair, SameBus])
  | decPair p => exact same _ (by simp [Shape.run, State.decrementPair, SameBus])
  | nop => exact same _ ⟨rfl, rfl, rfl, rfl, rfl⟩
  | halt => exact same _ ⟨rfl, rfl, rfl, rfl, rfl⟩
  | stop n => exact same _ ⟨rfl, rfl, rfl, rfl, rfl⟩
  | writeIme v => exact same _ ⟨rfl, rfl, rfl, rfl, rfl⟩
  | illegal => exact same _ ⟨rfl, rfl, rfl, rfl, rfl⟩
  | daa => exact same _ ⟨rfl, rfl, rfl, rfl, rfl⟩
  | cpl => exact same _ ⟨rfl, rfl, rfl, rfl, rfl⟩
  | scf => exact same _ ⟨rfl, rfl, rfl, rfl, rfl⟩
  | ccf => exact same _ ⟨rfl, rfl, rfl, rfl, rfl⟩
  | spFromHL => exact same _ ⟨rfl, rfl, rfl, rfl, rfl⟩
  | addHL p => exact same _ ⟨rfl, rfl, rfl, rfl, rfl⟩
  | addSP e => exact same _ ⟨rfl, rfl, rfl, rfl, rfl⟩
  | hlFromSP e => exact same _ ⟨rfl, rfl, rfl, rfl, rfl⟩
  | jump t => exact same _ ⟨rfl, rfl, rfl, rfl, rfl⟩
  | jumpHL => exact same _ ⟨rfl, rfl, rfl, rfl, rfl⟩
  | jr e => exact same _ ⟨rfl, rfl, rfl, rfl, rfl⟩
  | rotA op => exact same _ ⟨rfl, rfl, rfl, rfl, rfl⟩

/-- So does every step. -/
theorem step_traces {s t : State} (h : step s = .next t) : Traces s t := by
  rw [step_eq] at h
  simp only [Host.Outcome.next.injEq] at h
  subst h
  have h0 : Traces s s.capture := SameBus.traces ⟨rfl, rfl, rfl, rfl, rfl⟩
  split
  · refine h0.trans (SameBus.traces ?_)
    simp only [State.idle]
    split <;> exact ⟨rfl, rfl, rfl, rfl, rfl⟩
  · exact ((h0.trans (fetch_traces _)).trans (run_traces _ _)).trans (finish_sameBus _ _).traces

/-! ### The unused flag bits -/

/-- Bits 3 to 0 of the flags byte are 0 (R34). -/
def FlagsLow (s : State) : Prop := s.f &&& 0x0F = 0

theorem maskFlags_low (v : Byte) : maskFlags v &&& 0x0F = 0 := by
  apply Byte.forall_of_fin (p := fun v => maskFlags v &&& 0x0F = 0)
  intro n
  fin_cases n <;> rfl

theorem setFlags_low (s : State) (z n h c : Bool) : FlagsLow (s.setFlags z n h c) := packFlags_low z n h c

theorem FlagsLow.of_eq {s t : State} (h : FlagsLow s) (he : t.f = s.f) : FlagsLow t := by
  unfold FlagsLow
  rw [he]
  exact h

theorem writeOperand_f (s : State) (x : Operand8) (v : Byte) : (s.writeOperand x v).f = s.f := by
  cases x <;> simp [State.writeOperand]

theorem readOperand_f (s : State) (x : Operand8) : (s.readOperand x).2.f = s.f := by
  cases x <;> simp [State.readOperand]

theorem applyAlu_low (s : State) (op : AluOp) (v : Byte) : FlagsLow (s.applyAlu op v) := by
  cases op <;> exact packFlags_low _ _ _ _

/-- An instruction leaves `F` alone or stores it with the unused bits 0 (R34). -/
theorem run_flags (s : State) (sh : Shape) : (sh.run s).f = s.f ∨ FlagsLow (sh.run s) := by
  cases sh with
  | nop => exact .inl rfl
  | halt => exact .inl rfl
  | stop n => exact .inl rfl
  | writeIme v => exact .inl rfl
  | illegal => exact .inl rfl
  | alu op x => exact .inr (applyAlu_low _ op _)
  | aluImm op n => exact .inr (applyAlu_low _ op _)
  | inc x => exact .inr (setFlags_low _ _ _ _ _)
  | dec x => exact .inr (setFlags_low _ _ _ _ _)
  | daa => exact .inr (setFlags_low _ _ _ _ _)
  | cpl => exact .inr (setFlags_low _ _ _ _ _)
  | scf => exact .inr (setFlags_low _ _ _ _ _)
  | ccf => exact .inr (setFlags_low _ _ _ _ _)
  | copy dst src => exact .inl (setReg8_f _ _ _)
  | loadHL dst => exact .inl (by simp [Shape.run, State.loadRegister])
  | storeHL src => exact .inl (memWrite_f _ _ _)
  | loadImm dst n => exact .inl (setReg8_f _ _ _)
  | storeImm n => exact .inl (memWrite_f _ _ _)
  | storeAt p => exact .inl (memWrite_f _ _ _)
  | loadAt p => exact .inl (by simp [Shape.run, State.loadRegister])
  | storeStep d => exact .inl (by simp [Shape.run, State.storeAStepHL, State.storeA])
  | loadStep d => exact .inl (by simp [Shape.run, State.loadAStepHL, State.loadRegister])
  | storeHigh n => exact .inl (memWrite_f _ _ _)
  | loadHigh n => exact .inl (by simp [Shape.run, State.loadRegister])
  | storeHighC => exact .inl (memWrite_f _ _ _)
  | loadHighC => exact .inl (by simp [Shape.run, State.loadRegister])
  | storeAbs a => exact .inl (memWrite_f _ _ _)
  | loadAbs a => exact .inl (by simp [Shape.run, State.loadRegister])
  | loadPair p n => exact .inl (setPair_f _ _ _)
  | storeSP a => exact .inl (by simp [Shape.run, State.memWrite16])
  | spFromHL => exact .inl rfl
  | push p => exact .inl (push16_f _ _)
  | pop p =>
    cases p with
    | af => exact .inr (maskFlags_low _)
    | bc => exact .inl (pop16_f s)
    | de => exact .inl (pop16_f s)
    | hl => exact .inl (pop16_f s)
  | incPair p => exact .inl (setPair_f _ _ _)
  | decPair p => exact .inl (setPair_f _ _ _)
  | addHL p => exact .inr (setFlags_low _ _ _ _ _)
  | addSP e => exact .inr (setFlags_low _ _ _ _ _)
  | hlFromSP e => exact .inr (setFlags_low _ _ _ _ _)
  | jump t => exact .inl rfl
  | jumpHL => exact .inl rfl
  | jr e => exact .inl rfl
  | jumpIf k t => simp only [Shape.run, State.jumpIf]; split <;> exact .inl rfl
  | jrIf k e => simp only [Shape.run, State.jumpIf]; split <;> exact .inl rfl
  | call t => exact .inl (push16_f _ _)
  | callIf k t =>
    simp only [Shape.run, State.callIf]
    split
    · exact .inl (push16_f _ _)
    · exact .inl rfl
  | ret => exact .inl (pop16_f s)
  | retIf k =>
    simp only [Shape.run, State.returnIf]
    split
    · exact .inl (pop16_f s)
    · exact .inl rfl
  | reti => exact .inl (pop16_f s)
  | rst t => exact .inl (push16_f _ _)
  | rotA op => exact .inr (setFlags_low _ _ _ _ _)
  | rot op x => exact .inr (setFlags_low _ _ _ _ _)
  | bit b x => exact .inr (setFlags_low _ _ _ _ _)
  | res b x => exact .inl (by simp only [Shape.run, State.resetBit, writeOperand_f, readOperand_f])
  | set b x => exact .inl (by simp only [Shape.run, State.assertBit, writeOperand_f, readOperand_f])

/-- Every instruction keeps the unused flag bits 0. -/
theorem run_low {s : State} (h : FlagsLow s) (sh : Shape) : FlagsLow (sh.run s) :=
  (run_flags s sh).elim h.of_eq id

end Sys2Proof.Machine
end

