-- ==== Sys2Proof/Laws/Launch.lean ====
section
/-! SUPPORT. What pokes leave alone, and the runs of a launch turn by turn. -/

namespace Sys2Proof.Machine

/-! ### Pokes -/

theorem store_same (s : State) (a : Word) (v : Byte) : SameExcept [.invalid] s (s.store a v) := by
  unfold State.store
  intro x hx
  split <;> cases x <;> first | rfl | simp at hx

/-- Pokes write memory, `IE` and `IF`, may set `invalid`, and leave everything else: they neither move `PC`
nor wake the engine themselves, and record no event. -/
theorem pokeAll_same (pokes : Pokes) (s : State) : SameExcept [.invalid] s (s.pokeAll pokes) := by
  induction pokes generalizing s with
  | nil => exact .refl _ s
  | cons poke rest ih => exact ((store_same s poke.1 poke.2).trans (ih _)).mono (by simp)

theorem pokeAll_mem_wf {s : State} (h : s.mem.wf) (pokes : Pokes) : (s.pokeAll pokes).mem.wf := by
  induction pokes generalizing s with
  | nil => exact h
  | cons poke rest ih => exact ih (store_mem_wf h poke.1 poke.2)

/-! ### Turns and runs -/

/-- A turn answers a next state from every state, as a step does. -/
theorem turn_next (pokes : Pokes) (s : State) : ∃ t, turn pokes s = .next t := by
  unfold turn
  rw [step_eq]
  split <;> exact ⟨_, rfl⟩

@[simp] theorem turns_nil (s : State) : turns [] s = .next s := rfl

theorem turns_cons {pokes : Pokes} {s t : State} (h : turn pokes s = .next t) (rest : Schedule) :
    turns (pokes :: rest) s = turns rest t := by simp [turns, h]

theorem stops_of_ends {p : EndCondition} {s : State} (hi : s.noInterruptDue = true) (h : s.ends p = true) :
    s.stops p = some s.endAs := by simp [State.stops, hi, h]

theorem stops_of_due (p : EndCondition) {s : State} (hi : s.noInterruptDue = false) :
    s.stops p = some (.interruptDue s) := by simp [State.stops, hi]

theorem stops_eq_none {p : EndCondition} {s : State} :
    s.stops p = none ↔ s.noInterruptDue = true ∧ s.ends p = false := by
  unfold State.stops
  split_ifs <;> simp_all

/-- A run that has come to something at a boundary stays so, whatever is left of the schedule. -/
theorem runUntil_stops {p : EndCondition} {s : State} {r : RunResult} (h : s.stops p = some r)
    (schedule : Schedule) : runUntil p schedule s = .next r := by cases schedule <;> simp [runUntil, h]

theorem runUntil_nil {p : EndCondition} {s : State} (h : s.stops p = none) :
    runUntil p [] s = .next (.notOver s) := by simp [runUntil, h]

/-- A run that goes on takes its next turn. -/
theorem runUntil_cons {p : EndCondition} {s t : State} {pokes : Pokes} (h : s.stops p = none)
    (hi : (s.pokeAll pokes).noInterruptDue = true) (ht : turn pokes s = .next t) (rest : Schedule) :
    runUntil p (pokes :: rest) s = runUntil p rest t := by simp [runUntil, h, hi, ht]

/-- The pokes of a boundary make an interrupt due. -/
theorem runUntil_poked {p : EndCondition} {s : State} {pokes : Pokes} (h : s.stops p = none)
    (hi : (s.pokeAll pokes).noInterruptDue = false) (rest : Schedule) :
    runUntil p (pokes :: rest) s = .next (.interruptDue (s.pokeAll pokes)) := by simp [runUntil, h, hi]

/-! ### The premise on interrupts, turn by turn -/

theorem NoInterruptDue.here {p : EndCondition} {schedule : Schedule} {s : State}
    (h : NoInterruptDue p schedule s) : s.noInterruptDue = true :=
  (h 0 s (by omega) rfl (by omega)).1

theorem noInterruptDue_of_ends {p : EndCondition} {s : State} (he : s.ends p = true) (schedule : Schedule) :
    NoInterruptDue p schedule s ↔ s.noInterruptDue = true := by
  refine ⟨fun h => h.here, fun hi n t _ ht hm => ?_⟩
  cases n with
  | zero =>
    cases ht
    exact ⟨hi, fun _ _ h => by simp [he] at h⟩
  | succ n => exact absurd (hm 0 s (by omega) rfl) (by simp [he])

theorem noInterruptDue_nil (p : EndCondition) (s : State) : NoInterruptDue p [] s ↔ s.noInterruptDue = true := by
  refine ⟨fun h => h.here, fun hi n t hn ht _ => ?_⟩
  obtain rfl : n = 0 := by simpa using hn
  cases ht
  exact ⟨hi, by simp⟩

theorem noInterruptDue_cons {p : EndCondition} {s t : State} {pokes : Pokes} (he : s.ends p = false)
    (ht : turn pokes s = .next t) (rest : Schedule) :
    NoInterruptDue p (pokes :: rest) s ↔
      s.noInterruptDue = true ∧ (s.pokeAll pokes).noInterruptDue = true ∧ NoInterruptDue p rest t := by
  constructor
  · refine fun h => ⟨h.here, (h 0 s (by simp) rfl (by omega)).2 pokes rfl he, fun n u hn hu hm => ?_⟩
    refine h (n + 1) u (by simpa using hn) (by simpa [turns_cons ht] using hu) fun m v hlt hv => ?_
    cases m with
    | zero => cases hv; exact he
    | succ m => exact hm m v (by omega) (by simpa [turns_cons ht] using hv)
  · rintro ⟨hi, hp, h⟩ n u hn hu hm
    cases n with
    | zero =>
      cases hu
      exact ⟨hi, fun q hq _ => by cases hq; exact hp⟩
    | succ n =>
      exact h n u (by simpa using hn) (by simpa [turns_cons ht] using hu)
        fun m v hlt hv => hm (m + 1) v (by omega) (by simpa [turns_cons ht] using hv)

/-! ### The kinds of end -/

theorem endAs_ne_notOver (s t : State) : s.endAs ≠ .notOver t := by
  unfold State.endAs
  split <;> simp

theorem endAs_ne_interruptDue (s t : State) : s.endAs ≠ .interruptDue t := by
  unfold State.endAs
  split <;> simp

theorem endAs_eq_success {s t : State} : s.endAs = .success t ↔ s = t ∧ s.faulted = false := by
  unfold State.endAs
  split <;> simp_all

theorem endAs_eq_faulted {s t : State} : s.endAs = .faulted t ↔ s = t ∧ s.faulted = true := by
  unfold State.endAs
  split <;> simp_all

end Sys2Proof.Machine
end

