-- ==== Sys2Proof/Tests/Slice0.lean ====
section
/-! SUPPORT. The model's own tests: the well-formedness smoke test; the decoding of every constructor, by bytes
written out from the encodings of 30_encoding.md and the opcode table; single steps, whose expected results are
vectors of 95_test_vectors.md (named by their numbers); and, for every statement with hypotheses, states and
operands that meet them. -/

namespace Sys2Proof.Tests

open Sys2Proof Sys2Proof.Machine Sys2Proof.Claims

/-! ### Well-formedness -/

/-- An ill-formed image is refused (R816, T12). -/
theorem test_empty_image_is_ill_formed : Image.wellFormed [] = false := by decide

theorem test_empty_image_constructs_nothing : construct [] = none := by decide

theorem test_one_byte_image_is_well_formed : Image.wellFormed [0x00] = true := by decide

/-! ### The unprefixed page, one theorem per row: the opcode byte, then the bytes 0x34 and 0x12 -/

/-- What decodes from an opcode byte followed by 0x34, 0x12. -/
def decodedAs (op : Byte) : Option Instr :=
  match decode [op, 0x34, 0x12] with
  | .ok (i, _) => some i
  | .error _ => none

/-- What decodes from 0xCB and an extended opcode byte. -/
def extendedAs (cbop : Byte) : Option Instr :=
  match decode [0xCB, cbop] with
  | .ok (i, _) => some i
  | .error _ => none

theorem test_decode_row_0x :
    [0x00, 0x01, 0x02, 0x03, 0x04, 0x05, 0x06, 0x07, 0x08, 0x09, 0x0A, 0x0B, 0x0C, 0x0D, 0x0E, 0x0F].map decodedAs =
      [some .nop, some (.ldBCN16 0x1234), some .ldAtBCA, some .incBC, some .incB, some .decB,
       some (.ldBN8 0x34), some .rlca, some (.ldAtA16SP 0x1234), some .addHLBC, some .ldAAtBC,
       some .decBC, some .incC, some .decC, some (.ldCN8 0x34), some .rrca] := by
  decide

theorem test_decode_row_1x :
    [0x10, 0x11, 0x12, 0x13, 0x14, 0x15, 0x16, 0x17, 0x18, 0x19, 0x1A, 0x1B, 0x1C, 0x1D, 0x1E, 0x1F].map decodedAs =
      [some (.stop 0x34), some (.ldDEN16 0x1234), some .ldAtDEA, some .incDE, some .incD,
       some .decD, some (.ldDN8 0x34), some .rla, some (.jrE8 0x34), some .addHLDE, some .ldAAtDE,
       some .decDE, some .incE, some .decE, some (.ldEN8 0x34), some .rra] := by
  decide

theorem test_decode_row_2x :
    [0x20, 0x21, 0x22, 0x23, 0x24, 0x25, 0x26, 0x27, 0x28, 0x29, 0x2A, 0x2B, 0x2C, 0x2D, 0x2E, 0x2F].map decodedAs =
      [some (.jrNZE8 0x34), some (.ldHLN16 0x1234), some .ldAtHLIncA, some .incHL, some .incH,
       some .decH, some (.ldHN8 0x34), some .daa, some (.jrZE8 0x34), some .addHLHL,
       some .ldAAtHLInc, some .decHL, some .incL, some .decL, some (.ldLN8 0x34), some .cpl] := by
  decide

theorem test_decode_row_3x :
    [0x30, 0x31, 0x32, 0x33, 0x34, 0x35, 0x36, 0x37, 0x38, 0x39, 0x3A, 0x3B, 0x3C, 0x3D, 0x3E, 0x3F].map decodedAs =
      [some (.jrNCE8 0x34), some (.ldSPN16 0x1234), some .ldAtHLDecA, some .incSP, some .incAtHL,
       some .decAtHL, some (.ldAtHLN8 0x34), some .scf, some (.jrCE8 0x34), some .addHLSP,
       some .ldAAtHLDec, some .decSP, some .incA, some .decA, some (.ldAN8 0x34), some .ccf] := by
  decide

theorem test_decode_row_4x :
    [0x40, 0x41, 0x42, 0x43, 0x44, 0x45, 0x46, 0x47, 0x48, 0x49, 0x4A, 0x4B, 0x4C, 0x4D, 0x4E, 0x4F].map decodedAs =
      [some .ldBB, some .ldBC, some .ldBD, some .ldBE, some .ldBH, some .ldBL, some .ldBAtHL,
       some .ldBA, some .ldCB, some .ldCC, some .ldCD, some .ldCE, some .ldCH, some .ldCL,
       some .ldCAtHL, some .ldCA] := by
  decide

theorem test_decode_row_5x :
    [0x50, 0x51, 0x52, 0x53, 0x54, 0x55, 0x56, 0x57, 0x58, 0x59, 0x5A, 0x5B, 0x5C, 0x5D, 0x5E, 0x5F].map decodedAs =
      [some .ldDB, some .ldDC, some .ldDD, some .ldDE, some .ldDH, some .ldDL, some .ldDAtHL,
       some .ldDA, some .ldEB, some .ldEC, some .ldED, some .ldEE, some .ldEH, some .ldEL,
       some .ldEAtHL, some .ldEA] := by
  decide

theorem test_decode_row_6x :
    [0x60, 0x61, 0x62, 0x63, 0x64, 0x65, 0x66, 0x67, 0x68, 0x69, 0x6A, 0x6B, 0x6C, 0x6D, 0x6E, 0x6F].map decodedAs =
      [some .ldHB, some .ldHC, some .ldHD, some .ldHE, some .ldHH, some .ldHL, some .ldHAtHL,
       some .ldHA, some .ldLB, some .ldLC, some .ldLD, some .ldLE, some .ldLH, some .ldLL,
       some .ldLAtHL, some .ldLA] := by
  decide

theorem test_decode_row_7x :
    [0x70, 0x71, 0x72, 0x73, 0x74, 0x75, 0x76, 0x77, 0x78, 0x79, 0x7A, 0x7B, 0x7C, 0x7D, 0x7E, 0x7F].map decodedAs =
      [some .ldAtHLB, some .ldAtHLC, some .ldAtHLD, some .ldAtHLE, some .ldAtHLH, some .ldAtHLL,
       some .halt, some .ldAtHLA, some .ldAB, some .ldAC, some .ldAD, some .ldAE, some .ldAH,
       some .ldAL, some .ldAAtHL, some .ldAA] := by
  decide

theorem test_decode_row_8x :
    [0x80, 0x81, 0x82, 0x83, 0x84, 0x85, 0x86, 0x87, 0x88, 0x89, 0x8A, 0x8B, 0x8C, 0x8D, 0x8E, 0x8F].map decodedAs =
      [some .addAB, some .addAC, some .addAD, some .addAE, some .addAH, some .addAL,
       some .addAAtHL, some .addAA, some .adcAB, some .adcAC, some .adcAD, some .adcAE,
       some .adcAH, some .adcAL, some .adcAAtHL, some .adcAA] := by
  decide

theorem test_decode_row_9x :
    [0x90, 0x91, 0x92, 0x93, 0x94, 0x95, 0x96, 0x97, 0x98, 0x99, 0x9A, 0x9B, 0x9C, 0x9D, 0x9E, 0x9F].map decodedAs =
      [some .subB, some .subC, some .subD, some .subE, some .subH, some .subL, some .subAtHL,
       some .subA, some .sbcAB, some .sbcAC, some .sbcAD, some .sbcAE, some .sbcAH, some .sbcAL,
       some .sbcAAtHL, some .sbcAA] := by
  decide

theorem test_decode_row_Ax :
    [0xA0, 0xA1, 0xA2, 0xA3, 0xA4, 0xA5, 0xA6, 0xA7, 0xA8, 0xA9, 0xAA, 0xAB, 0xAC, 0xAD, 0xAE, 0xAF].map decodedAs =
      [some .andB, some .andC, some .andD, some .andE, some .andH, some .andL, some .andAtHL,
       some .andA, some .xorB, some .xorC, some .xorD, some .xorE, some .xorH, some .xorL,
       some .xorAtHL, some .xorA] := by
  decide

theorem test_decode_row_Bx :
    [0xB0, 0xB1, 0xB2, 0xB3, 0xB4, 0xB5, 0xB6, 0xB7, 0xB8, 0xB9, 0xBA, 0xBB, 0xBC, 0xBD, 0xBE, 0xBF].map decodedAs =
      [some .orB, some .orC, some .orD, some .orE, some .orH, some .orL, some .orAtHL, some .orA,
       some .cpB, some .cpC, some .cpD, some .cpE, some .cpH, some .cpL, some .cpAtHL, some .cpA] := by
  decide

theorem test_decode_row_Cx :
    [0xC0, 0xC1, 0xC2, 0xC3, 0xC4, 0xC5, 0xC6, 0xC7, 0xC8, 0xC9, 0xCA, 0xCC, 0xCD, 0xCE, 0xCF].map decodedAs =
      [some .retNZ, some .popBC, some (.jpNZA16 0x1234), some (.jpA16 0x1234),
       some (.callNZA16 0x1234), some .pushBC, some (.addAN8 0x34), some .rst00, some .retZ,
       some .ret, some (.jpZA16 0x1234), some (.callZA16 0x1234), some (.callA16 0x1234),
       some (.adcAN8 0x34), some .rst08] := by
  decide

theorem test_decode_row_Dx :
    [0xD0, 0xD1, 0xD2, 0xD3, 0xD4, 0xD5, 0xD6, 0xD7, 0xD8, 0xD9, 0xDA, 0xDB, 0xDC, 0xDD, 0xDE, 0xDF].map decodedAs =
      [some .retNC, some .popDE, some (.jpNCA16 0x1234), some .illegalD3, some (.callNCA16 0x1234),
       some .pushDE, some (.subN8 0x34), some .rst10, some .retC, some .reti,
       some (.jpCA16 0x1234), some .illegalDB, some (.callCA16 0x1234), some .illegalDD,
       some (.sbcAN8 0x34), some .rst18] := by
  decide

theorem test_decode_row_Ex :
    [0xE0, 0xE1, 0xE2, 0xE3, 0xE4, 0xE5, 0xE6, 0xE7, 0xE8, 0xE9, 0xEA, 0xEB, 0xEC, 0xED, 0xEE, 0xEF].map decodedAs =
      [some (.ldhAtA8A 0x34), some .popHL, some .ldhAtCA, some .illegalE3, some .illegalE4,
       some .pushHL, some (.andN8 0x34), some .rst20, some (.addSPE8 0x34), some .jpHL,
       some (.ldAtA16A 0x1234), some .illegalEB, some .illegalEC, some .illegalED,
       some (.xorN8 0x34), some .rst28] := by
  decide

theorem test_decode_row_Fx :
    [0xF0, 0xF1, 0xF2, 0xF3, 0xF4, 0xF5, 0xF6, 0xF7, 0xF8, 0xF9, 0xFA, 0xFB, 0xFC, 0xFD, 0xFE, 0xFF].map decodedAs =
      [some (.ldhAAtA8 0x34), some .popAF, some .ldhAAtC, some .di, some .illegalF4, some .pushAF,
       some (.orN8 0x34), some .rst30, some (.ldHLSPE8 0x34), some .ldSPHL,
       some (.ldAAtA16 0x1234), some .ei, some .illegalFC, some .illegalFD, some (.cpN8 0x34),
       some .rst38] := by
  decide

/-! ### The extended page, one theorem per row (R135) -/

theorem test_decode_extended_row_0x :
    [0x00, 0x01, 0x02, 0x03, 0x04, 0x05, 0x06, 0x07, 0x08, 0x09, 0x0A, 0x0B, 0x0C, 0x0D, 0x0E, 0x0F].map extendedAs =
      [some .rlcB, some .rlcC, some .rlcD, some .rlcE, some .rlcH, some .rlcL, some .rlcAtHL,
       some .rlcA, some .rrcB, some .rrcC, some .rrcD, some .rrcE, some .rrcH, some .rrcL,
       some .rrcAtHL, some .rrcA] := by
  decide

theorem test_decode_extended_row_1x :
    [0x10, 0x11, 0x12, 0x13, 0x14, 0x15, 0x16, 0x17, 0x18, 0x19, 0x1A, 0x1B, 0x1C, 0x1D, 0x1E, 0x1F].map extendedAs =
      [some .rlB, some .rlC, some .rlD, some .rlE, some .rlH, some .rlL, some .rlAtHL, some .rlA,
       some .rrB, some .rrC, some .rrD, some .rrE, some .rrH, some .rrL, some .rrAtHL, some .rrA] := by
  decide

theorem test_decode_extended_row_2x :
    [0x20, 0x21, 0x22, 0x23, 0x24, 0x25, 0x26, 0x27, 0x28, 0x29, 0x2A, 0x2B, 0x2C, 0x2D, 0x2E, 0x2F].map extendedAs =
      [some .slaB, some .slaC, some .slaD, some .slaE, some .slaH, some .slaL, some .slaAtHL,
       some .slaA, some .sraB, some .sraC, some .sraD, some .sraE, some .sraH, some .sraL,
       some .sraAtHL, some .sraA] := by
  decide

theorem test_decode_extended_row_3x :
    [0x30, 0x31, 0x32, 0x33, 0x34, 0x35, 0x36, 0x37, 0x38, 0x39, 0x3A, 0x3B, 0x3C, 0x3D, 0x3E, 0x3F].map extendedAs =
      [some .swapB, some .swapC, some .swapD, some .swapE, some .swapH, some .swapL,
       some .swapAtHL, some .swapA, some .srlB, some .srlC, some .srlD, some .srlE, some .srlH,
       some .srlL, some .srlAtHL, some .srlA] := by
  decide

theorem test_decode_extended_row_4x :
    [0x40, 0x41, 0x42, 0x43, 0x44, 0x45, 0x46, 0x47, 0x48, 0x49, 0x4A, 0x4B, 0x4C, 0x4D, 0x4E, 0x4F].map extendedAs =
      [some .bit0B, some .bit0C, some .bit0D, some .bit0E, some .bit0H, some .bit0L,
       some .bit0AtHL, some .bit0A, some .bit1B, some .bit1C, some .bit1D, some .bit1E,
       some .bit1H, some .bit1L, some .bit1AtHL, some .bit1A] := by
  decide

theorem test_decode_extended_row_5x :
    [0x50, 0x51, 0x52, 0x53, 0x54, 0x55, 0x56, 0x57, 0x58, 0x59, 0x5A, 0x5B, 0x5C, 0x5D, 0x5E, 0x5F].map extendedAs =
      [some .bit2B, some .bit2C, some .bit2D, some .bit2E, some .bit2H, some .bit2L,
       some .bit2AtHL, some .bit2A, some .bit3B, some .bit3C, some .bit3D, some .bit3E,
       some .bit3H, some .bit3L, some .bit3AtHL, some .bit3A] := by
  decide

theorem test_decode_extended_row_6x :
    [0x60, 0x61, 0x62, 0x63, 0x64, 0x65, 0x66, 0x67, 0x68, 0x69, 0x6A, 0x6B, 0x6C, 0x6D, 0x6E, 0x6F].map extendedAs =
      [some .bit4B, some .bit4C, some .bit4D, some .bit4E, some .bit4H, some .bit4L,
       some .bit4AtHL, some .bit4A, some .bit5B, some .bit5C, some .bit5D, some .bit5E,
       some .bit5H, some .bit5L, some .bit5AtHL, some .bit5A] := by
  decide

theorem test_decode_extended_row_7x :
    [0x70, 0x71, 0x72, 0x73, 0x74, 0x75, 0x76, 0x77, 0x78, 0x79, 0x7A, 0x7B, 0x7C, 0x7D, 0x7E, 0x7F].map extendedAs =
      [some .bit6B, some .bit6C, some .bit6D, some .bit6E, some .bit6H, some .bit6L,
       some .bit6AtHL, some .bit6A, some .bit7B, some .bit7C, some .bit7D, some .bit7E,
       some .bit7H, some .bit7L, some .bit7AtHL, some .bit7A] := by
  decide

theorem test_decode_extended_row_8x :
    [0x80, 0x81, 0x82, 0x83, 0x84, 0x85, 0x86, 0x87, 0x88, 0x89, 0x8A, 0x8B, 0x8C, 0x8D, 0x8E, 0x8F].map extendedAs =
      [some .res0B, some .res0C, some .res0D, some .res0E, some .res0H, some .res0L,
       some .res0AtHL, some .res0A, some .res1B, some .res1C, some .res1D, some .res1E,
       some .res1H, some .res1L, some .res1AtHL, some .res1A] := by
  decide

theorem test_decode_extended_row_9x :
    [0x90, 0x91, 0x92, 0x93, 0x94, 0x95, 0x96, 0x97, 0x98, 0x99, 0x9A, 0x9B, 0x9C, 0x9D, 0x9E, 0x9F].map extendedAs =
      [some .res2B, some .res2C, some .res2D, some .res2E, some .res2H, some .res2L,
       some .res2AtHL, some .res2A, some .res3B, some .res3C, some .res3D, some .res3E,
       some .res3H, some .res3L, some .res3AtHL, some .res3A] := by
  decide

theorem test_decode_extended_row_Ax :
    [0xA0, 0xA1, 0xA2, 0xA3, 0xA4, 0xA5, 0xA6, 0xA7, 0xA8, 0xA9, 0xAA, 0xAB, 0xAC, 0xAD, 0xAE, 0xAF].map extendedAs =
      [some .res4B, some .res4C, some .res4D, some .res4E, some .res4H, some .res4L,
       some .res4AtHL, some .res4A, some .res5B, some .res5C, some .res5D, some .res5E,
       some .res5H, some .res5L, some .res5AtHL, some .res5A] := by
  decide

theorem test_decode_extended_row_Bx :
    [0xB0, 0xB1, 0xB2, 0xB3, 0xB4, 0xB5, 0xB6, 0xB7, 0xB8, 0xB9, 0xBA, 0xBB, 0xBC, 0xBD, 0xBE, 0xBF].map extendedAs =
      [some .res6B, some .res6C, some .res6D, some .res6E, some .res6H, some .res6L,
       some .res6AtHL, some .res6A, some .res7B, some .res7C, some .res7D, some .res7E,
       some .res7H, some .res7L, some .res7AtHL, some .res7A] := by
  decide

theorem test_decode_extended_row_Cx :
    [0xC0, 0xC1, 0xC2, 0xC3, 0xC4, 0xC5, 0xC6, 0xC7, 0xC8, 0xC9, 0xCA, 0xCB, 0xCC, 0xCD, 0xCE, 0xCF].map extendedAs =
      [some .set0B, some .set0C, some .set0D, some .set0E, some .set0H, some .set0L,
       some .set0AtHL, some .set0A, some .set1B, some .set1C, some .set1D, some .set1E,
       some .set1H, some .set1L, some .set1AtHL, some .set1A] := by
  decide

theorem test_decode_extended_row_Dx :
    [0xD0, 0xD1, 0xD2, 0xD3, 0xD4, 0xD5, 0xD6, 0xD7, 0xD8, 0xD9, 0xDA, 0xDB, 0xDC, 0xDD, 0xDE, 0xDF].map extendedAs =
      [some .set2B, some .set2C, some .set2D, some .set2E, some .set2H, some .set2L,
       some .set2AtHL, some .set2A, some .set3B, some .set3C, some .set3D, some .set3E,
       some .set3H, some .set3L, some .set3AtHL, some .set3A] := by
  decide

theorem test_decode_extended_row_Ex :
    [0xE0, 0xE1, 0xE2, 0xE3, 0xE4, 0xE5, 0xE6, 0xE7, 0xE8, 0xE9, 0xEA, 0xEB, 0xEC, 0xED, 0xEE, 0xEF].map extendedAs =
      [some .set4B, some .set4C, some .set4D, some .set4E, some .set4H, some .set4L,
       some .set4AtHL, some .set4A, some .set5B, some .set5C, some .set5D, some .set5E,
       some .set5H, some .set5L, some .set5AtHL, some .set5A] := by
  decide

theorem test_decode_extended_row_Fx :
    [0xF0, 0xF1, 0xF2, 0xF3, 0xF4, 0xF5, 0xF6, 0xF7, 0xF8, 0xF9, 0xFA, 0xFB, 0xFC, 0xFD, 0xFE, 0xFF].map extendedAs =
      [some .set6B, some .set6C, some .set6D, some .set6E, some .set6H, some .set6L,
       some .set6AtHL, some .set6A, some .set7B, some .set7C, some .set7D, some .set7E,
       some .set7H, some .set7L, some .set7AtHL, some .set7A] := by
  decide

/-! ### Single steps: the vectors of 95_test_vectors.md -/

/-- The reset state with these bytes at 0x0100 and these cells above them: a vector's start. -/
def start (bytes : List Byte) (cells : Memory) : State :=
  { State.reset with mem := imageCells 0x0100 bytes ++ cells }

/-- The state after one step. -/
def after (s : State) : State :=
  match step s with
  | .next t => t
  | .fault _ => s
  | .refused _ => s

/-- The writes of the history, in the order in which they happened. -/
def writes (s : State) : List AccessEvent :=
  s.accessHistory.filter fun ev => match ev with | .write _ _ => true | .read _ => false

/-- V1 (R210): `ADD A,B`, carry, half-carry, zero. -/
theorem test_V1_addAB :
    let t := after { start [0x80] [] with a := 0x3A, b := 0xC6, f := 0x00 }
    t.a = 0x00 ∧ t.f = 0xB0 ∧ t.pc = 0x0101 ∧ writes t = [] := by
  decide

/-- V4 (R211): `ADD A,(HL)`, half-carry from (HL). -/
theorem test_V4_addAAtHL :
    let t := after { start [0x86] [(0xC000, 0x01)] with a := 0x0F, h := 0xC0, l := 0x00, f := 0x00 }
    t.a = 0x10 ∧ t.f = 0x20 ∧ t.pc = 0x0101 ∧ writes t = [] := by
  decide

/-- V7 (R213): `ADC A,B`, C7: b=0xFF, cin=1 gives C=1, H=1. -/
theorem test_V7_adcAB :
    let t := after { start [0x88] [] with a := 0x00, b := 0xFF, f := 0x10 }
    t.a = 0x00 ∧ t.f = 0xB0 ∧ t.pc = 0x0101 ∧ writes t = [] := by
  decide

/-- V8 (R214): `ADC A,(HL)`. -/
theorem test_V8_adcAAtHL :
    let t := after { start [0x8E] [(0xC000, 0xF0)] with a := 0x0F, h := 0xC0, l := 0x00, f := 0x10 }
    t.a = 0x00 ∧ t.f = 0xB0 ∧ t.pc = 0x0101 ∧ writes t = [] := by
  decide

/-- V9 (R215): `ADC A,n8`, 0xF0+0x0F+1 = 0x100. -/
theorem test_V9_adcAN8 :
    let t := after { start [0xCE, 0x0F] [] with a := 0xF0, f := 0x10 }
    t.a = 0x00 ∧ t.f = 0xB0 ∧ t.pc = 0x0102 ∧ writes t = [] := by
  decide

/-- V13 (R217): `SUB (HL)`, half borrow. -/
theorem test_V13_subAtHL :
    let t := after { start [0x96] [(0xC000, 0x01)] with a := 0x10, h := 0xC0, l := 0x00, f := 0x00 }
    t.a = 0x0F ∧ t.f = 0x60 ∧ t.pc = 0x0101 ∧ writes t = [] := by
  decide

/-- V16 (R219): `SBC A,B`, C7: borrow in, nibble 0-F-1. -/
theorem test_V16_sbcAB :
    let t := after { start [0x98] [] with a := 0x10, b := 0x0F, f := 0x10 }
    t.a = 0x00 ∧ t.f = 0xE0 ∧ t.pc = 0x0101 ∧ writes t = [] := by
  decide

/-- V18 (R221): `SBC A,n8`, 0-0xFF-1. -/
theorem test_V18_sbcAN8 :
    let t := after { start [0xDE, 0xFF] [] with a := 0x00, f := 0x10 }
    t.a = 0x00 ∧ t.f = 0xF0 ∧ t.pc = 0x0102 ∧ writes t = [] := by
  decide

/-- V20 (R223): `AND (HL)`, AND gives zero, H=1. -/
theorem test_V20_andAtHL :
    let t := after { start [0xA6] [] with a := 0x5A, h := 0xC0, l := 0x00, f := 0x00 }
    t.a = 0x00 ∧ t.f = 0xA0 ∧ t.pc = 0x0101 ∧ writes t = [] := by
  decide

/-- V22 (R225): `XOR A`, XOR A clears A. -/
theorem test_V22_xorA :
    let t := after { start [0xAF] [] with a := 0xFF, f := 0x70 }
    t.a = 0x00 ∧ t.f = 0x80 ∧ t.pc = 0x0101 ∧ writes t = [] := by
  decide

/-- V24 (R227): `XOR n8`. -/
theorem test_V24_xorN8 :
    let t := after { start [0xEE, 0x0F] [] with a := 0xFF, f := 0xF0 }
    t.a = 0xF0 ∧ t.f = 0x00 ∧ t.pc = 0x0102 ∧ writes t = [] := by
  decide

/-- V26 (R229): `OR (HL)`, OR zero. -/
theorem test_V26_orAtHL :
    let t := after { start [0xB6] [] with a := 0x00, h := 0xC0, l := 0x00, f := 0x00 }
    t.a = 0x00 ∧ t.f = 0x80 ∧ t.pc = 0x0101 ∧ writes t = [] := by
  decide

/-- V28 (R231): `CP B`, A unchanged. -/
theorem test_V28_cpB :
    let t := after { start [0xB8] [] with a := 0x3C, b := 0x2F, f := 0x00 }
    t.a = 0x3C ∧ t.f = 0x60 ∧ t.pc = 0x0101 ∧ writes t = [] := by
  decide

/-- V31 (R231): `CP A`, CP A: Z=1 N=1. -/
theorem test_V31_cpA :
    let t := after { start [0xBF] [] with a := 0x00, f := 0x00 }
    t.a = 0x00 ∧ t.f = 0xC0 ∧ t.pc = 0x0101 ∧ writes t = [] := by
  decide

/-- V33 (R234): `INC B`, wrap: Z=1 H=1, C kept. -/
theorem test_V33_incB :
    let t := after { start [0x04] [] with b := 0xFF, f := 0x10 }
    t.a = 0x01 ∧ t.f = 0xB0 ∧ t.b = 0x00 ∧ t.pc = 0x0101 ∧ writes t = [] := by
  decide

/-- V36 (R235): `INC (HL)`, memory wraps. -/
theorem test_V36_incAtHL :
    let t := after { start [0x34] [(0xC000, 0xFF)] with h := 0xC0, l := 0x00, f := 0x00 }
    t.a = 0x01 ∧ t.f = 0xA0 ∧ t.pc = 0x0101 ∧ writes t = [.write 0xC000 0x00] := by
  decide

/-- V37 (R236): `DEC C`. -/
theorem test_V37_decC :
    let t := after { start [0x0D] [] with c := 0x00, f := 0x10 }
    t.a = 0x01 ∧ t.f = 0x70 ∧ t.c = 0xFF ∧ t.pc = 0x0101 ∧ writes t = [] := by
  decide

/-- V40 (R237): `DEC (HL)`. -/
theorem test_V40_decAtHL :
    let t := after { start [0x35] [] with h := 0xC0, l := 0x00, f := 0x00 }
    t.a = 0x01 ∧ t.f = 0x60 ∧ t.pc = 0x0101 ∧ writes t = [.write 0xC000 0xFF] := by
  decide

/-- V42 (R238): `DAA`, 0x9A -> 0x00, C=1. -/
theorem test_V42_daa :
    let t := after { start [0x27] [] with a := 0x9A, f := 0x00 }
    t.a = 0x00 ∧ t.f = 0x90 ∧ t.pc = 0x0101 ∧ writes t = [] := by
  decide

/-- V44 (R238): `DAA`, N, H, C set: subtract 0x66. -/
theorem test_V44_daa :
    let t := after { start [0x27] [] with a := 0x40, f := 0x70 }
    t.a = 0xDA ∧ t.f = 0x50 ∧ t.pc = 0x0101 ∧ writes t = [] := by
  decide

/-- V48 (R239): `CPL`, Z,C kept. -/
theorem test_V48_cpl :
    let t := after { start [0x2F] [] with a := 0x00, f := 0x90 }
    t.a = 0xFF ∧ t.f = 0xF0 ∧ t.pc = 0x0101 ∧ writes t = [] := by
  decide

/-- V49 (R240): `SCF`. -/
theorem test_V49_scf :
    let t := after { start [0x37] [] with f := 0xE0 }
    t.a = 0x01 ∧ t.f = 0x90 ∧ t.pc = 0x0101 ∧ writes t = [] := by
  decide

/-- V50 (R241): `CCF`. -/
theorem test_V50_ccf :
    let t := after { start [0x3F] [] with f := 0x90 }
    t.a = 0x01 ∧ t.f = 0x80 ∧ t.pc = 0x0101 ∧ writes t = [] := by
  decide

/-- V54 (R300): `LD E,L`, LD E,L. -/
theorem test_V54_ldEL :
    let t := after { start [0x5D] [] with l := 0x4D }
    t.f = 0xB0 ∧ t.e = 0x4D ∧ t.pc = 0x0101 ∧ writes t = [] := by
  decide

/-- V56 (R301): `LD H,(HL)`, LD H,(HL): address read before H changes. -/
theorem test_V56_ldHAtHL :
    let t := after { start [0x66] [(0xC000, 0x77)] with h := 0xC0, l := 0x00 }
    t.f = 0xB0 ∧ t.h = 0x77 ∧ t.pc = 0x0101 ∧ writes t = [] := by
  decide

/-- V58 (R302): `LD (HL),H`, LD (HL),H stores the high byte. -/
theorem test_V58_ldAtHLH :
    let t := after { start [0x74] [] with h := 0xC1, l := 0x23 }
    t.f = 0xB0 ∧ t.pc = 0x0101 ∧ writes t = [.write 0xC123 0xC1] := by
  decide

/-- V61 (R304): `LD (HL),n8`. -/
theorem test_V61_ldAtHLN8 :
    let t := after { start [0x36, 0x5A] [] with h := 0xC0, l := 0x00 }
    t.f = 0xB0 ∧ t.pc = 0x0102 ∧ writes t = [.write 0xC000 0x5A] := by
  decide

/-- V62 (R305): `LD (BC),A`. -/
theorem test_V62_ldAtBCA :
    let t := after { start [0x02] [] with b := 0xC0, c := 0x10, a := 0x3F }
    t.f = 0xB0 ∧ t.pc = 0x0101 ∧ writes t = [.write 0xC010 0x3F] := by
  decide

/-- V63 (R306): `LD (DE),A`. -/
theorem test_V63_ldAtDEA :
    let t := after { start [0x12] [] with d := 0xD0, e := 0x00, a := 0x01 }
    t.f = 0xB0 ∧ t.pc = 0x0101 ∧ writes t = [.write 0xD000 0x01] := by
  decide

/-- V64 (R307): `LD A,(BC)`. -/
theorem test_V64_ldAAtBC :
    let t := after { start [0x0A] [(0xC010, 0x3F)] with b := 0xC0, c := 0x10 }
    t.a = 0x3F ∧ t.f = 0xB0 ∧ t.pc = 0x0101 ∧ writes t = [] := by
  decide

/-- V65 (R308): `LD A,(DE)`, reads its own opcode byte 0x1A from ROM. -/
theorem test_V65_ldAAtDE :
    let t := after { start [0x1A] [] with d := 0x01, e := 0x00 }
    t.a = 0x1A ∧ t.f = 0xB0 ∧ t.pc = 0x0101 ∧ writes t = [] := by
  decide

/-- V67 (R309): `LD (HL+),A`, HL wraps to 0000; writes IE. -/
theorem test_V67_ldAtHLIncA :
    let t := after { start [0x22] [] with h := 0xFF, l := 0xFF, a := 0x11 }
    t.f = 0xB0 ∧ t.h = 0x00 ∧ t.l = 0x00 ∧ t.pc = 0x0101 ∧ t.ie = 0x11 ∧ writes t = [.write 0xFFFF 0x11] := by
  decide

/-- V69 (R310): `LD (HL-),A`, HL- wraps below WRAM0 start. -/
theorem test_V69_ldAtHLDecA :
    let t := after { start [0x32] [] with h := 0xC0, l := 0x00, a := 0x22 }
    t.f = 0xB0 ∧ t.h = 0xBF ∧ t.l = 0xFF ∧ t.pc = 0x0101 ∧ writes t = [.write 0xC000 0x22] := by
  decide

/-- V70 (R311): `LD A,(HL+)`. -/
theorem test_V70_ldAAtHLInc :
    let t := after { start [0x2A] [(0xC000, 0x11)] with h := 0xC0, l := 0x00 }
    t.a = 0x11 ∧ t.f = 0xB0 ∧ t.l = 0x01 ∧ t.pc = 0x0101 ∧ writes t = [] := by
  decide

/-- V71 (R312): `LD A,(HL-)`. -/
theorem test_V71_ldAAtHLDec :
    let t := after { start [0x3A] [(0xC001, 0x22)] with h := 0xC0, l := 0x01 }
    t.a = 0x22 ∧ t.f = 0xB0 ∧ t.l = 0x00 ∧ t.pc = 0x0101 ∧ writes t = [] := by
  decide

/-- V72 (R313): `LDH (a8),A`, LDH (0xFF),A writes IE. -/
theorem test_V72_ldhAtA8A :
    let t := after { start [0xE0, 0xFF] [] with a := 0x01 }
    t.f = 0xB0 ∧ t.pc = 0x0102 ∧ t.ie = 0x01 ∧ writes t = [.write 0xFFFF 0x01] := by
  decide

/-- V73 (R313): `LDH (a8),A`, writes IF; all 8 bits stored (D8). -/
theorem test_V73_ldhAtA8A :
    let t := after { start [0xE0, 0x0F] [] with a := 0xE1 }
    t.f = 0xB0 ∧ t.pc = 0x0102 ∧ t.iflag = 0xE1 ∧ writes t = [.write 0xFF0F 0xE1] := by
  decide

/-- V74 (R314): `LDH A,(a8)`, LY reads 0x90. -/
theorem test_V74_ldhAAtA8 :
    let t := after (start [0xF0, 0x44] [])
    t.a = 0x90 ∧ t.f = 0xB0 ∧ t.pc = 0x0102 ∧ writes t = [] := by
  decide

/-- V76 (R315): `LDH (C),A`. -/
theorem test_V76_ldhAtCA :
    let t := after { start [0xE2] [] with c := 0x80, a := 0x07 }
    t.f = 0xB0 ∧ t.pc = 0x0101 ∧ writes t = [.write 0xFF80 0x07] := by
  decide

/-- V77 (R316): `LDH A,(C)`. -/
theorem test_V77_ldhAAtC :
    let t := after { start [0xF2] [] with c := 0x0F, iflag := 0x04 }
    t.a = 0x04 ∧ t.f = 0xB0 ∧ t.pc = 0x0101 ∧ writes t = [] := by
  decide

/-- V78 (R317): `LD (a16),A`. -/
theorem test_V78_ldAtA16A :
    let t := after { start [0xEA, 0x00, 0xC1] [] with a := 0x99 }
    t.f = 0xB0 ∧ t.pc = 0x0103 ∧ writes t = [.write 0xC100 0x99] := by
  decide

/-- V79 (R318): `LD A,(a16)`. -/
theorem test_V79_ldAAtA16 :
    let t := after (start [0xFA, 0x00, 0xC1] [(0xC100, 0x99)])
    t.a = 0x99 ∧ t.f = 0xB0 ∧ t.pc = 0x0103 ∧ writes t = [] := by
  decide

/-- V81 (R319): `LD HL,n16`. -/
theorem test_V81_ldHLN16 :
    let t := after (start [0x21, 0x34, 0x12] [])
    t.f = 0xB0 ∧ t.h = 0x12 ∧ t.l = 0x34 ∧ t.pc = 0x0103 ∧ writes t = [] := by
  decide

/-- V85 (R320): `LD (a16),SP`, second byte wraps to 0x0000 (ROM is written, D19). -/
theorem test_V85_ldAtA16SP :
    let t := after { start [0x08, 0xFF, 0xFF] [] with sp := 0x1234 }
    t.f = 0xB0 ∧ t.pc = 0x0103 ∧ t.ie = 0x34 ∧ writes t = [.write 0xFFFF 0x34, .write 0x0000 0x12] := by
  decide

/-- V86 (R321): `LD SP,HL`. -/
theorem test_V86_ldSPHL :
    let t := after { start [0xF9] [] with h := 0xDF, l := 0xF0 }
    t.f = 0xB0 ∧ t.sp = 0xDFF0 ∧ t.pc = 0x0101 ∧ writes t = [] := by
  decide

/-- V88 (R322): `PUSH HL`, SP wraps: 0001-2 = FFFF. -/
theorem test_V88_pushHL :
    let t := after { start [0xE5] [] with sp := 0x0001, h := 0xAB, l := 0xCD }
    t.f = 0xB0 ∧ t.sp = 0xFFFF ∧ t.pc = 0x0101 ∧ t.ie = 0xCD ∧ writes t = [.write 0x0000 0xAB, .write 0xFFFF 0xCD] := by
  decide

/-- V89 (R323): `PUSH AF`. -/
theorem test_V89_pushAF :
    let t := after { start [0xF5] [] with sp := 0xFFFE }
    t.f = 0xB0 ∧ t.sp = 0xFFFC ∧ t.pc = 0x0101 ∧ writes t = [.write 0xFFFD 0x01, .write 0xFFFC 0xB0] := by
  decide

/-- V90 (R324): `POP DE`. -/
theorem test_V90_popDE :
    let t := after { start [0xD1] [(0xFFFC, 0x34), (0xFFFD, 0x12)] with sp := 0xFFFC }
    t.f = 0xB0 ∧ t.d = 0x12 ∧ t.e = 0x34 ∧ t.sp = 0xFFFE ∧ t.pc = 0x0101 ∧ writes t = [] := by
  decide

/-- V92 (R325): `POP AF`, F=0xF0. -/
theorem test_V92_popAF :
    let t := after { start [0xF1] [(0xFFFC, 0xFF)] with sp := 0xFFFC }
    t.a = 0x00 ∧ t.f = 0xF0 ∧ t.sp = 0xFFFE ∧ t.pc = 0x0101 ∧ writes t = [] := by
  decide

/-- V93 (R402): `INC BC`, no flag changes. -/
theorem test_V93_incBC :
    let t := after { start [0x03] [] with b := 0xFF, c := 0xFF, f := 0x50 }
    t.f = 0x50 ∧ t.b = 0x00 ∧ t.c = 0x00 ∧ t.pc = 0x0101 ∧ writes t = [] := by
  decide

/-- V94 (R402): `INC SP`. -/
theorem test_V94_incSP :
    let t := after { start [0x33] [] with sp := 0xFFFF }
    t.f = 0xB0 ∧ t.sp = 0x0000 ∧ t.pc = 0x0101 ∧ writes t = [] := by
  decide

/-- V95 (R403): `DEC SP`. -/
theorem test_V95_decSP :
    let t := after { start [0x3B] [] with sp := 0x0000 }
    t.f = 0xB0 ∧ t.sp = 0xFFFF ∧ t.pc = 0x0101 ∧ writes t = [] := by
  decide

/-- V96 (R403): `DEC DE`. -/
theorem test_V96_decDE :
    let t := after { start [0x1B] [] with d := 0x01, e := 0x00, f := 0xF0 }
    t.f = 0xF0 ∧ t.d = 0x00 ∧ t.e = 0xFF ∧ t.pc = 0x0101 ∧ writes t = [] := by
  decide

/-- V97 (R404): `ADD HL,BC`. -/
theorem test_V97_addHLBC :
    let t := after { start [0x09] [] with h := 0x8A, l := 0x23, b := 0x06, c := 0x05, f := 0x80 }
    t.f = 0xA0 ∧ t.h = 0x90 ∧ t.l = 0x28 ∧ t.pc = 0x0101 ∧ writes t = [] := by
  decide

/-- V98 (R404): `ADD HL,HL`, ADD HL,HL: C from bit 15, H from bit 11. -/
theorem test_V98_addHLHL :
    let t := after { start [0x29] [] with h := 0x8A, l := 0x23, f := 0x00 }
    t.f = 0x30 ∧ t.h = 0x14 ∧ t.l = 0x46 ∧ t.pc = 0x0101 ∧ writes t = [] := by
  decide

/-- V99 (R404): `ADD HL,SP`, carry, Z kept, N cleared. -/
theorem test_V99_addHLSP :
    let t := after { start [0x39] [] with h := 0xF0, l := 0x00, sp := 0x1000, f := 0xC0 }
    t.f = 0x90 ∧ t.h = 0x00 ∧ t.l = 0x00 ∧ t.pc = 0x0101 ∧ writes t = [] := by
  decide

/-- V100 (R404): `ADD HL,DE`, half-carry only. -/
theorem test_V100_addHLDE :
    let t := after { start [0x19] [] with h := 0x0F, l := 0xFF, d := 0x00, e := 0x01, f := 0x00 }
    t.f = 0x20 ∧ t.h = 0x10 ∧ t.l = 0x00 ∧ t.pc = 0x0101 ∧ writes t = [] := by
  decide

/-- V101 (R405): `ADD SP,e8`. -/
theorem test_V101_addSPE8 :
    let t := after { start [0xE8, 0x02] [] with sp := 0xFFF8, f := 0xF0 }
    t.f = 0x00 ∧ t.sp = 0xFFFA ∧ t.pc = 0x0102 ∧ writes t = [] := by
  decide

/-- V102 (R405): `ADD SP,e8`, C5: chip H=1 C=1. -/
theorem test_V102_addSPE8 :
    let t := after { start [0xE8, 0x0F] [] with sp := 0x00F1, f := 0x00 }
    t.f = 0x30 ∧ t.sp = 0x0100 ∧ t.pc = 0x0102 ∧ writes t = [] := by
  decide

/-- V103 (R405): `ADD SP,e8`, e8=-1: SP wraps, H=0 C=0. -/
theorem test_V103_addSPE8 :
    let t := after { start [0xE8, 0xFF] [] with sp := 0x0000, f := 0x00 }
    t.f = 0x00 ∧ t.sp = 0xFFFF ∧ t.pc = 0x0102 ∧ writes t = [] := by
  decide

/-- V104 (R405): `ADD SP,e8`, e8=-1 from 0001: H=1 C=1 (low-byte rule). -/
theorem test_V104_addSPE8 :
    let t := after { start [0xE8, 0xFF] [] with sp := 0x0001, f := 0x00 }
    t.f = 0x30 ∧ t.sp = 0x0000 ∧ t.pc = 0x0102 ∧ writes t = [] := by
  decide

/-- V105 (R406): `LD HL,SP+e8`. -/
theorem test_V105_ldHLSPE8 :
    let t := after { start [0xF8, 0xFE] [] with sp := 0xC000 }
    t.f = 0x00 ∧ t.h = 0xBF ∧ t.l = 0xFE ∧ t.pc = 0x0102 ∧ writes t = [] := by
  decide

/-- V106 (R406): `LD HL,SP+e8`, HL = 0000, Z cleared, H=1 C=1. -/
theorem test_V106_ldHLSPE8 :
    let t := after { start [0xF8, 0x01] [] with sp := 0xFFFF, f := 0x80 }
    t.f = 0x30 ∧ t.h = 0x00 ∧ t.l = 0x00 ∧ t.pc = 0x0102 ∧ writes t = [] := by
  decide

/-- V107 (R500): `JP a16`, GBZ §8 scenario. -/
theorem test_V107_jpA16 :
    let t := after (start [0xC3, 0x50, 0x01] [])
    t.f = 0xB0 ∧ t.pc = 0x0150 ∧ writes t = [] := by
  decide

/-- V109 (R501): `JP NZ,a16`, NZ, Z=1: not taken. -/
theorem test_V109_jpNZA16 :
    let t := after { start [0xC2, 0x00, 0x20] [] with f := 0x80 }
    t.f = 0x80 ∧ t.pc = 0x0103 ∧ writes t = [] := by
  decide

/-- V110 (R501): `JP Z,a16`, Z, Z=1: taken. -/
theorem test_V110_jpZA16 :
    let t := after { start [0xCA, 0x00, 0x20] [] with f := 0x80 }
    t.f = 0x80 ∧ t.pc = 0x2000 ∧ writes t = [] := by
  decide

/-- V113 (R502): `JP HL`. -/
theorem test_V113_jpHL :
    let t := after { start [0xE9] [] with h := 0xC0, l := 0x00 }
    t.f = 0xB0 ∧ t.pc = 0xC000 ∧ writes t = [] := by
  decide

/-- V115 (R503): `JR e8`, -128. -/
theorem test_V115_jrE8 :
    let t := after (start [0x18, 0x80] [])
    t.f = 0xB0 ∧ t.pc = 0x0082 ∧ writes t = [] := by
  decide

/-- V117 (R503): `JR e8`, +127. -/
theorem test_V117_jrE8 :
    let t := after (start [0x18, 0x7F] [])
    t.f = 0xB0 ∧ t.pc = 0x0181 ∧ writes t = [] := by
  decide

/-- V118 (R504): `JR NZ,e8`, NZ taken. -/
theorem test_V118_jrNZE8 :
    let t := after { start [0x20, 0x10] [] with f := 0x00 }
    t.f = 0x00 ∧ t.pc = 0x0112 ∧ writes t = [] := by
  decide

/-- V119 (R504): `JR C,e8`, C not taken. -/
theorem test_V119_jrCE8 :
    let t := after { start [0x38, 0x10] [] with f := 0x00 }
    t.f = 0x00 ∧ t.pc = 0x0102 ∧ writes t = [] := by
  decide

/-- V122 (R505): `CALL a16`. -/
theorem test_V122_callA16 :
    let t := after { start [0xCD, 0x34, 0x12] [] with sp := 0xFFFE }
    t.f = 0xB0 ∧ t.sp = 0xFFFC ∧ t.pc = 0x1234 ∧ writes t = [.write 0xFFFD 0x01, .write 0xFFFC 0x03] := by
  decide

/-- V123 (R506): `CALL C,a16`, C=0: not taken, no stack access. -/
theorem test_V123_callCA16 :
    let t := after { start [0xDC, 0x34, 0x12] [] with f := 0x00, sp := 0xFFFE }
    t.f = 0x00 ∧ t.pc = 0x0103 ∧ writes t = [] := by
  decide

/-- V124 (R506): `CALL NZ,a16`, NZ, Z=0: taken. -/
theorem test_V124_callNZA16 :
    let t := after { start [0xC4, 0x34, 0x12] [] with f := 0x00, sp := 0xFFFE }
    t.f = 0x00 ∧ t.sp = 0xFFFC ∧ t.pc = 0x1234 ∧ writes t = [.write 0xFFFD 0x01, .write 0xFFFC 0x03] := by
  decide

/-- V126 (R507): `RET`. -/
theorem test_V126_ret :
    let t := after { start [0xC9] [(0xFFFC, 0x03), (0xFFFD, 0x01)] with sp := 0xFFFC }
    t.f = 0xB0 ∧ t.sp = 0xFFFE ∧ t.pc = 0x0103 ∧ writes t = [] := by
  decide

/-- V127 (R508): `RET Z`, RET Z taken. -/
theorem test_V127_retZ :
    let t := after { start [0xC8] [(0xFFFC, 0x03), (0xFFFD, 0x01)] with sp := 0xFFFC, f := 0x80 }
    t.f = 0x80 ∧ t.sp = 0xFFFE ∧ t.pc = 0x0103 ∧ writes t = [] := by
  decide

/-- V128 (R508): `RET NZ`, RET NZ not taken: no pop. -/
theorem test_V128_retNZ :
    let t := after { start [0xC0] [(0xFFFC, 0x03), (0xFFFD, 0x01)] with sp := 0xFFFC, f := 0x80 }
    t.f = 0x80 ∧ t.pc = 0x0101 ∧ writes t = [] := by
  decide

/-- V131 (R509): `RETI`. -/
theorem test_V131_reti :
    let t := after { start [0xD9] [(0xFFFC, 0x03), (0xFFFD, 0x01)] with sp := 0xFFFC }
    t.f = 0xB0 ∧ t.sp = 0xFFFE ∧ t.pc = 0x0103 ∧ t.ime = true ∧ writes t = [] := by
  decide

/-- V139 (R510): `RST 0x38`, RST 0x38. -/
theorem test_V139_rst38 :
    let t := after { start [0xFF] [] with sp := 0xFFFE }
    t.f = 0xB0 ∧ t.sp = 0xFFFC ∧ t.pc = 0x0038 ∧ writes t = [.write 0xFFFD 0x01, .write 0xFFFC 0x01] := by
  decide

/-- V141 (R601): `RLCA`, Z forced 0 even for result 0. -/
theorem test_V141_rlca :
    let t := after { start [0x07] [] with a := 0x00, f := 0x80 }
    t.a = 0x00 ∧ t.f = 0x00 ∧ t.pc = 0x0101 ∧ writes t = [] := by
  decide

/-- V143 (R603): `RLA`. -/
theorem test_V143_rla :
    let t := after { start [0x17] [] with a := 0x85, f := 0x00 }
    t.a = 0x0A ∧ t.f = 0x10 ∧ t.pc = 0x0101 ∧ writes t = [] := by
  decide

/-- V145 (R604): `RRA`. -/
theorem test_V145_rra :
    let t := after { start [0x1F] [] with a := 0x85, f := 0x10 }
    t.a = 0xC2 ∧ t.f = 0x10 ∧ t.pc = 0x0101 ∧ writes t = [] := by
  decide

/-- V146 (R604): `RRA`. -/
theorem test_V146_rra :
    let t := after { start [0x1F] [] with a := 0x01, f := 0x00 }
    t.a = 0x00 ∧ t.f = 0x10 ∧ t.pc = 0x0101 ∧ writes t = [] := by
  decide

/-- V149 (R611): `RLC (HL)`, RLC (HL), 0x01. -/
theorem test_V149_rlcAtHL :
    let t := after { start [0xCB, 0x06] [(0xC000, 0x01)] with h := 0xC0, l := 0x00, f := 0x00 }
    t.f = 0x00 ∧ t.pc = 0x0102 ∧ writes t = [.write 0xC000 0x02] := by
  decide

/-- V153 (R613): `RRC (HL)`, RRC (HL), 0x01. -/
theorem test_V153_rrcAtHL :
    let t := after { start [0xCB, 0x0E] [(0xC000, 0x01)] with h := 0xC0, l := 0x00, f := 0x00 }
    t.f = 0x10 ∧ t.pc = 0x0102 ∧ writes t = [.write 0xC000 0x80] := by
  decide

/-- V156 (R614): `RL B`, RL B. -/
theorem test_V156_rlB :
    let t := after { start [0xCB, 0x10] [] with b := 0x85, f := 0x10 }
    t.f = 0x10 ∧ t.b = 0x0B ∧ t.pc = 0x0102 ∧ writes t = [] := by
  decide

/-- V160 (R616): `RR B`, RR B. -/
theorem test_V160_rrB :
    let t := after { start [0xCB, 0x18] [] with b := 0x85, f := 0x10 }
    t.f = 0x10 ∧ t.b = 0xC2 ∧ t.pc = 0x0102 ∧ writes t = [] := by
  decide

/-- V162 (R616): `RR A`, RR A, 0x00. -/
theorem test_V162_rrA :
    let t := after { start [0xCB, 0x1F] [] with a := 0x00, f := 0x10 }
    t.a = 0x80 ∧ t.f = 0x00 ∧ t.pc = 0x0102 ∧ writes t = [] := by
  decide

/-- V165 (R619): `SLA (HL)`, SLA (HL), 0x01. -/
theorem test_V165_slaAtHL :
    let t := after { start [0xCB, 0x26] [(0xC000, 0x01)] with h := 0xC0, l := 0x00, f := 0x00 }
    t.f = 0x00 ∧ t.pc = 0x0102 ∧ writes t = [.write 0xC000 0x02] := by
  decide

/-- V169 (R621): `SRA (HL)`, SRA (HL), 0x01. -/
theorem test_V169_sraAtHL :
    let t := after { start [0xCB, 0x2E] [(0xC000, 0x01)] with h := 0xC0, l := 0x00, f := 0x00 }
    t.f = 0x90 ∧ t.pc = 0x0102 ∧ writes t = [.write 0xC000 0x00] := by
  decide

/-- V173 (R623): `SWAP (HL)`, SWAP (HL), 0x01. -/
theorem test_V173_swapAtHL :
    let t := after { start [0xCB, 0x36] [(0xC000, 0x01)] with h := 0xC0, l := 0x00, f := 0x00 }
    t.f = 0x00 ∧ t.pc = 0x0102 ∧ writes t = [.write 0xC000 0x10] := by
  decide

/-- V177 (R625): `SRL (HL)`, SRL (HL), 0x01. -/
theorem test_V177_srlAtHL :
    let t := after { start [0xCB, 0x3E] [(0xC000, 0x01)] with h := 0xC0, l := 0x00, f := 0x00 }
    t.f = 0x90 ∧ t.pc = 0x0102 ∧ writes t = [.write 0xC000 0x00] := by
  decide

/-- V180 (R626): `BIT 7,H`, BIT 7,H. -/
theorem test_V180_bit7H :
    let t := after { start [0xCB, 0x7C] [] with h := 0x7F, f := 0x10 }
    t.f = 0xB0 ∧ t.pc = 0x0102 ∧ writes t = [] := by
  decide

/-- V183 (R627): `BIT 0,(HL)`. -/
theorem test_V183_bit0AtHL :
    let t := after { start [0xCB, 0x46] [(0xC000, 0xFE)] with h := 0xC0, l := 0x00, f := 0x50 }
    t.f = 0xB0 ∧ t.pc = 0x0102 ∧ writes t = [] := by
  decide

/-- V184 (R627): `BIT 3,(HL)`, BIT 3,(HL) at LY: 0x90 has bit 3 = 0. -/
theorem test_V184_bit3AtHL :
    let t := after { start [0xCB, 0x5E] [] with h := 0xFF, l := 0x44, f := 0x00 }
    t.f = 0xA0 ∧ t.pc = 0x0102 ∧ writes t = [] := by
  decide

/-- V185 (R628): `RES 3,A`, RES 3,A. -/
theorem test_V185_res3A :
    let t := after { start [0xCB, 0x9F] [] with a := 0xFF, f := 0xF0 }
    t.a = 0xF7 ∧ t.f = 0xF0 ∧ t.pc = 0x0102 ∧ writes t = [] := by
  decide

/-- V187 (R629): `RES 0,(HL)`, RES 0,(HL): read then write. -/
theorem test_V187_res0AtHL :
    let t := after { start [0xCB, 0x86] [(0xC000, 0xFF)] with h := 0xC0, l := 0x00, f := 0x30 }
    t.f = 0x30 ∧ t.pc = 0x0102 ∧ writes t = [.write 0xC000 0xFE] := by
  decide

/-- V189 (R630): `SET 0,C`, SET 0,C already set. -/
theorem test_V189_set0C :
    let t := after { start [0xCB, 0xC1] [] with c := 0x01, f := 0x00 }
    t.f = 0x00 ∧ t.c = 0x01 ∧ t.pc = 0x0102 ∧ writes t = [] := by
  decide

/-- V191 (R631): `SET 3,(HL)`, SET 3,(HL) in ROM: stored (D19). -/
theorem test_V191_set3AtHL :
    let t := after { start [0xCB, 0xDE] [] with h := 0x40, l := 0x00, f := 0x00 }
    t.f = 0x00 ∧ t.pc = 0x0102 ∧ writes t = [.write 0x4000 0x08] := by
  decide

/-- V192 (R700): `NOP`, GBZ §8 scenario. -/
theorem test_V192_nop :
    let t := after (start [0x00] [])
    t.f = 0xB0 ∧ t.pc = 0x0101 ∧ writes t = [] := by
  decide

/-- V193 (R701): `HALT`, HALT: halted=1; icount +1. -/
theorem test_V193_halt :
    let t := after (start [0x76] [])
    t.f = 0xB0 ∧ t.pc = 0x0101 ∧ t.halted = true ∧ writes t = [] := by
  decide

/-- V195 (R702): `STOP`, STOP: length 2. -/
theorem test_V195_stop :
    let t := after (start [0x10, 0x00] [])
    t.f = 0xB0 ∧ t.pc = 0x0102 ∧ t.halted = true ∧ writes t = [] := by
  decide

/-- V196 (R703): `DI`. -/
theorem test_V196_di :
    let t := after { start [0xF3] [] with ime := true }
    t.f = 0xB0 ∧ t.pc = 0x0101 ∧ t.ime = false ∧ writes t = [] := by
  decide

/-- V197 (R704): `EI`. -/
theorem test_V197_ei :
    let t := after (start [0xFB] [])
    t.f = 0xB0 ∧ t.pc = 0x0101 ∧ t.ime = true ∧ writes t = [] := by
  decide

/-- V199 (R705): `ILLEGAL_D3`, illegal 0xD3. -/
theorem test_V199_illegalD3 :
    let t := after (start [0xD3] [])
    t.f = 0xB0 ∧ t.pc = 0x0101 ∧ t.unimpl = true ∧ writes t = [] := by
  decide

/-- V209 (R705): `ILLEGAL_FD`, illegal 0xFD. -/
theorem test_V209_illegalFD :
    let t := after (start [0xFD] [])
    t.f = 0xB0 ∧ t.pc = 0x0101 ∧ t.unimpl = true ∧ writes t = [] := by
  decide

/-- V194 (R144): the step after `HALT` idles and is not counted. -/
theorem test_V194_halted_step_idles :
    let t := after (after (start [0x76, 0x3C] []))
    t.halted = true ∧ t.pc = 0x0101 ∧ t.icount = 1 ∧ t.a = 0x01 := by
  decide

/-- V220 (R77, R141): the byte at 0xFFFF is `IE` = 0x00, `NOP`, and `PC` wraps. -/
theorem test_V220_fetch_of_ie :
    let t := after { start [] [] with pc := 0xFFFF }
    t.pc = 0x0000 ∧ t.invalid = false := by
  decide

/-- V218 (R81): a fetch from an unmapped address sets `invalid`, whatever the byte drawn. -/
theorem test_V218_fetch_from_unmapped :
    ({ start [] [] with pc := 0xE000 }.memRead 0xE000).2.invalid = true := by
  decide

/-- V80 (R81): a load from an unmapped address sets `invalid`, moves `PC` and changes no byte of memory; the
byte loaded is a draw. -/
theorem test_V80_load_of_a_draw :
    let t := after (start [0xFA, 0x00, 0xE0] [])
    t.invalid = true ∧ t.pc = 0x0103 ∧ t.draws = 1 ∧ t.a = Config.draw 0 := by
  refine ⟨by decide, by decide, by decide, rfl⟩

/-- V210 (R81, R85): a write to an unmapped address is discarded and recorded. -/
theorem test_V210_store_to_unmapped :
    let s := { start [0xEA, 0x00, 0xA0] [] with a := 0x77 }
    (after s).invalid = true ∧ (after s).mem = s.mem ∧ writes (after s) = [.write 0xA000 0x77] := by
  decide

/-- V212 (R79): the scanline register reads 0x90 after a write of 0x12 to it. -/
theorem test_V212_scanline_register :
    let t := after (after { start [0xEA, 0x44, 0xFF, 0xFA, 0x44, 0xFF] [] with a := 0x12 })
    t.a = 0x90 ∧ t.pc = 0x0106 := by
  decide

/-- T4, counter-instance (R89): a pair pushed over 0xFF44 is not what is popped. -/
theorem test_T4_pop_over_scanline_register :
    let s := { start [] [] with sp := 0xFF46 }
    (s.push16 0x1234).pop16.1 = 0x1290 ∧ (s.push16 0x1234).pop16.2.sp = 0xFF46 := by
  decide

/-- T13 (R901): the reset command with profile `ALT`. -/
theorem test_T13_reset_alt :
    let t := ({ State.reset with a := 0x55, halted := true, ie := 0x1F, icount := 7,
                                  mem := [(0x0100, 0x3C), (0xC000, 0x0F)] }).resetCommand .alt
    t.a = 0x11 ∧ t.f = 0x80 ∧ t.de = 0xFF56 ∧ t.hl = 0x000D ∧ t.halted = false ∧ t.ie = 0x1F ∧
      t.icount = 7 ∧ t.mem = [(0x0100, 0x3C)] := by
  decide

/-- T14 (R44, R815): rewind after V61 restores `PC` and not memory. -/
theorem test_T14_rewind :
    let t := (after { start [0x36, 0x5A] [] with h := 0xC0, l := 0x00 }).rewind
    t.pc = 0x0100 ∧ t.hl = 0xC000 ∧ t.byteAt 0xC000 = some 0x5A ∧ t.icount = 1 := by
  decide

/-- T12 (R900): construction from a one-byte image of 0x00 is the reset state. -/
theorem test_T12_construct : construct [0x00] = some State.reset := by decide

/-- The reset command with profile `DMG` leaves the reset state as it is (R901). -/
theorem test_reset_of_reset : State.reset.resetCommand .dmg = State.reset := by decide

/-! ### The host's two questions -/

theorem test_table_word_of_first_page : decodeTableWord 8 0x3E = some (.ldAN8 0x00) := by decide

theorem test_table_word_of_extended_page : decodeTableWord 16 0xCB7C = some .bit7H := by decide

/-- A placed instruction is the one the next step runs. -/
theorem test_placed_word_runs :
    (after (State.reset.withFetchWord 16 0xCB7C)).flagZ = true ∧
      (after (State.reset.withFetchWord 8 0x3C)).a = 0x02 := by
  decide

/-- From a halted state, and from a `PC` where bytes do not stay, too. -/
theorem test_placed_word_runs_elsewhere :
    (after ({ State.reset with halted := true, pc := 0xFF43 }.withFetchWord 8 0x3C)).a = 0x02 := by
  decide

/-! ### Witnesses: each statement's hypotheses are met, clause by clause -/

/-- `EncodeOfDecodeIsIdentity`. -/
theorem test_witness_EncodeOfDecodeIsIdentity :
    decode [0x01, 0xCD, 0xAB, 0x00] = .ok (.ldBCN16 0xABCD, [0x00]) := by decide

/-- `FirstByteFixesLength`: at each length, exactly enough bytes, and one too few. -/
theorem test_witness_FirstByteFixesLength :
    decode [0x00] = .ok (.nop, []) ∧ decode [0x3E, 0x01] = .ok (.ldAN8 0x01, []) ∧
    decode [0xC3, 0x50, 0x01] = .ok (.jpA16 0x0150, []) ∧ decode [0xCB, 0x00] = .ok (.rlcB, []) ∧
    decode [0x3E] = .error (.truncated 0x3E) ∧ decode [0xC3, 0x50] = .error (.truncated 0xC3) ∧
    decode [0xCB] = .error (.truncated 0xCB) ∧ decode [] = .error .noOpcode := by decide

/-- `FetchReads` (in the statements on instructions longer than a byte): the byte at `PC` is the first byte,
in plain memory, before the end of the address space and before unmapped addresses. -/
theorem test_witness_FetchReads :
    (start [0xEA] []).byteAt (start [0xEA] []).pc = some 0xEA ∧
    ({ start [] [] with pc := 0xFFFF, ie := 0xFA }).byteAt 0xFFFF = some 0xFA ∧
    ({ start [] [(0x9FFF, 0xCB)] with pc := 0x9FFF }).byteAt 0x9FFF = some 0xCB := by decide

/-- `Stored`: a canonical memory and an address that keeps what is stored, at the ends of the regions. -/
theorem test_witness_Stored :
    State.reset.mem.wf ∧ ([0x0000, 0x7FFF, 0x8000, 0x9FFF, 0xC000, 0xCFFF, 0xD000, 0xDFFF, 0xFF00, 0xFF0F,
      0xFF43, 0xFF45, 0xFF7F, 0xFF80, 0xFFFE, 0xFFFF].all retains) = true := by decide

/-- The addresses that do not keep what is stored: unmapped ones and 0xFF44. -/
theorem test_not_retained :
    ([0xA000, 0xBFFF, 0xE000, 0xFEFF, 0xFF44].any retains) = false := by decide

/-- `ReadsAs`: an address with a byte, in each kind of region; an unmapped one has none. -/
theorem test_witness_ReadsAs :
    let s := { start [0x3E] [(0xC000, 0x77)] with ie := 0x1F, iflag := 0x01 }
    s.byteAt 0x0100 = some 0x3E ∧ s.byteAt 0xC000 = some 0x77 ∧ s.byteAt 0xFFFF = some 0x1F ∧
    s.byteAt 0xFF0F = some 0x01 ∧ s.byteAt 0xFF44 = some 0x90 ∧ s.byteAt 0xA000 = none := by decide

/-- `AddressMapIsTheTable`, `ReadByRegion`, `WriteByRegion`, `WritesAreReadBack`, `ResetCommandRestoresTheProfile`: every
region has addresses, the ends of each range among them. -/
theorem test_witness_regions :
    region 0x0000 = .rom ∧ region 0x7FFF = .rom ∧ region 0x8000 = .vram ∧ region 0x9FFF = .vram ∧
    region 0xA000 = .unmapped ∧ region 0xBFFF = .unmapped ∧ region 0xC000 = .wram0 ∧ region 0xCFFF = .wram0 ∧
    region 0xD000 = .wram1 ∧ region 0xDFFF = .wram1 ∧ region 0xE000 = .unmapped ∧ region 0xFEFF = .unmapped ∧
    region 0xFF00 = .io ∧ region 0xFF0F = .iflag ∧ region 0xFF44 = .ly ∧ region 0xFF7F = .io ∧
    region 0xFF80 = .hram ∧ region 0xFFFE = .hram ∧ region 0xFFFF = .ie := by decide

/-- `WritesAreReadBack`: its last clause speaks of a cell that no address reads. -/
theorem test_witness_WritesAreReadBack :
    State.reset.mem.wf ∧ (region 0xC000 ≠ .ly ∧ region 0xC000 ≠ .unmapped) ∧
    (State.reset.memWrite 0xC000 0x5A).byteAt 0xC001 = some 0x00 ∧
    ({ State.reset with mem := Memory.set [] 0xFF0F 0x5A }).byteAt 0xFF0F = some 0x00 := by decide

/-- `PopUndoesPush`: both stack bytes keep what is written. -/
theorem test_witness_PopUndoesPush :
    State.reset.mem.wf ∧ retains (State.reset.sp - 1) = true ∧ retains (State.reset.sp - 2) = true := by decide

/-- `LoadRegisterFromRegister` and the other encodings by index: the ends of the index ranges. -/
theorem test_witness_indices :
    (tableR8 0, tableR8 7) = (.reg .b, .reg .a) ∧ tableR8 6 = .atHL ∧ (tableRp 0, tableRp 3) = (.bc, .sp) ∧
    (tableRp2 0, tableRp2 3) = (.bc, .af) ∧ (tableCc 0, tableCc 3) = (.nz, .c) ∧
    (tableRot 0, tableRot 7) = (.rlc, .srl) ∧ (tableAlu 0, tableAlu 7) = (.add, .cp) := by decide

/-- `DecimalAdjust`: each of its four cases, after an addition and after a subtraction. -/
theorem test_witness_DecimalAdjust :
    (let s := { State.reset with a := 0x9A, f := 0x00 }
     9 < s.a.toNat % 16 ∧ s.flagN = false ∧ 0x99 < s.a.toNat) ∧
    (let s := { State.reset with a := 0x99, f := 0x20 }
     s.flagH = true ∧ s.flagN = false ∧ s.flagC = false ∧ ¬0x99 < s.a.toNat) ∧
    (let s := { State.reset with a := 0x90, f := 0x50 }
     s.flagC = true ∧ s.flagN = true ∧ s.flagH = false) ∧
    (let s := { State.reset with a := 0x99, f := 0x40 }
     s.flagH = false ∧ s.flagC = false ∧ s.flagN = true) ∧
    (let s := { State.reset with a := 0x99, f := 0x00 }
     s.flagH = false ∧ s.flagC = false ∧ ¬9 < s.a.toNat % 16 ∧ ¬0x99 < s.a.toNat) := by decide

/-- The state after an instruction's meaning. -/
def ran (i : Instr) (s : State) : State :=
  match exec i s with
  | .next t => t
  | .fault _ => s
  | .refused _ => s

/-- `DecimalAdjustIsDecimal`: 99 + 99, and 0 - 99. -/
theorem test_witness_DecimalAdjustIsDecimal :
    bcd 99 = 0x99 ∧ bcd 0 = 0x00 ∧
    (let s := { State.reset with a := 0x99 }
     exec (.addAN8 0x99) s = .next (ran (.addAN8 0x99) s) ∧
      exec .daa (ran (.addAN8 0x99) s) = .next (ran .daa (ran (.addAN8 0x99) s))) ∧
    (let s := { State.reset with a := 0x00 }
     exec (.subN8 0x99) s = .next (ran (.subN8 0x99) s) ∧
      exec .daa (ran (.subN8 0x99) s) = .next (ran .daa (ran (.subN8 0x99) s))) :=
  ⟨by decide, by decide, ⟨rfl, rfl⟩, rfl, rfl⟩

/-- 99 + 99 is 198 and 0 - 99 is 1 after a borrow, in decimal. -/
theorem test_decimal_adjust :
    (ran .daa (ran (.addAN8 0x99) { State.reset with a := 0x99 })).a = 0x98 ∧
    (ran .daa (ran (.subN8 0x99) { State.reset with a := 0x00 })).a = 0x01 := by decide

/-- `JumpOnCondition`, `CallPushesReturnAddress`, `ReturnPopsTarget`: each condition true and false. -/
theorem test_witness_conditions :
    (let s := { State.reset with f := 0x90 }
     s.cond .z = true ∧ s.cond .nz = false ∧ s.cond .c = true ∧ s.cond .nc = false) ∧
    (let s := { State.reset with f := 0x00 }
     s.cond .z = false ∧ s.cond .nz = true ∧ s.cond .c = false ∧ s.cond .nc = true) := by decide

/-- `NopChangesNothing` and `AdvanceMovesPastTheInstruction`: `redirect` 0 and 1. -/
theorem test_witness_redirect :
    State.reset.redirect = false ∧ (State.reset.jump 0x0150).redirect = true ∧
    (State.reset.advance (instrLength (.jpA16 0x0150))).pc = 0x0103 ∧
    ((State.reset.jump 0x0150).advance (instrLength (.jpA16 0x0150))).pc = 0x0150 := by decide

/-- `UnimplementedSignal`: an illegal byte, another instruction, and the two ends of its last clause. -/
theorem test_witness_UnimplementedSignal :
    exec .illegalD3 State.reset = .next { State.reset with unimpl := true } ∧
    exec .nop State.reset = .next State.reset ∧
    (let s := { State.reset with unimpl := true }
     command .clearUnimpl s = .next (.nothing, State.reset) ∧ command .clearInvalid s = .next (.nothing, s)) :=
  ⟨rfl, rfl, rfl, rfl⟩

/-- `StepRunsTheDecodedInstruction`: a state not halted whose bytes at `PC` are those of an instruction of
each length, none of them at 0xFF44. -/
theorem test_witness_StepRunsTheDecodedInstruction :
    (let s := start [0xC3, 0x50, 0x01] []
     s.halted = false ∧ (∀ k, k < (encode (.jpA16 0x0150)).length →
        s.byteAt (s.pc + BitVec.ofNat 16 k) = (encode (.jpA16 0x0150))[k]?) ∧
      ∀ k, k < (encode (.jpA16 0x0150)).length → s.pc + BitVec.ofNat 16 k ≠ 0xFF44) ∧
    (let s := start [0xCB, 0x7C] []
     s.halted = false ∧ ∀ k, k < (encode .bit7H).length →
        s.byteAt (s.pc + BitVec.ofNat 16 k) = (encode .bit7H)[k]?) := by decide

/-- The same with the immediate byte read at 0xFF44. -/
theorem test_witness_StepRuns_at_scanline_register :
    let s := { start [] [(0xFF43, 0x3E)] with pc := 0xFF43 }
    ∀ k, k < (encode (.ldAN8 0x90)).length →
      s.byteAt (s.pc + BitVec.ofNat 16 k) = (encode (.ldAN8 0x90))[k]? := by decide

/-- `HaltedStepOnlyWakes`: halted with and without a wake-up, at the edge of the mask 0x1F. -/
theorem test_witness_HaltedStepOnlyWakes :
    (let s := { State.reset with halted := true, ie := 0x10, iflag := 0x10 }
     s.halted = true ∧ ((s.ie.toNat % 32) &&& (s.iflag.toNat % 32)) ≠ 0) ∧
    (let s := { State.reset with halted := true, ie := 0xE0, iflag := 0xE0 }
     s.halted = true ∧ ((s.ie.toNat % 32) &&& (s.iflag.toNat % 32)) = 0 ∧ s.ends .onHalt = true) := by decide

/-- `StepCapturesTheRegisters`, `RewindRestoresTheRegisters`, `MemoryChangesAreRecordedWrites`: a step from a
canonical memory that changes a byte; and a halted one. -/
theorem test_witness_step :
    (let s := { start [0x36, 0x5A] [] with h := 0xC0, l := 0x00 }
     s.mem.wf ∧ step s = .next (after s) ∧ (after s).byteAt 0xC000 = some 0x5A ∧
      s.byteAt 0xC000 = some 0x00) ∧
    (let s := { State.reset with halted := true }
     step s = .next (after s) ∧ s.halted = true) :=
  ⟨⟨by decide, rfl, by decide, by decide⟩, rfl, rfl⟩

/-- `ResetMeetsTheInvariant` and `StepKeepsTheInvariant`: the invariant holds, before and after a step and a
command that change the state. -/
theorem test_witness_StepKeepsTheInvariant :
    State.reset.Inv ∧ step State.reset = .next (after State.reset) ∧ (after State.reset).pc = 0x0101 ∧
    construct [0x3C] = some { State.reset with mem := [(0x0000, 0x3C)] } ∧
    command (.pokeByte 0xC000 0x5A) State.reset =
      .next (.nothing, { State.reset with mem := [(0xC000, 0x5A)] }) :=
  ⟨by decide, rfl, by decide, by decide, rfl⟩

/-- `InvalidExactlyByUnmappedAccess`: a state with `invalid` set, the command that clears it and one that
does not. -/
theorem test_witness_InvalidExactlyByUnmappedAccess :
    let s := { State.reset with invalid := true }
    command .clearInvalid s = .next (.nothing, State.reset) ∧
      command .instructionCount s = .next (.count 0, s) := ⟨rfl, rfl⟩

/-- `HiddenStateDoesNotInterfere`: two different states with the same program view, and a step. -/
theorem test_witness_HiddenStateDoesNotInterfere :
    let s := start [0x3C] []
    let s' := { s with ime := true, unimpl := true, icount := 9, history := [.read 0x1234] }
    programView s = programView s' ∧ s ≠ s' ∧ step s = .next (after s) :=
  ⟨rfl, by decide, rfl⟩

/-- `ControlBitsHaveTheirWriters`: one instruction of each kind, and one that writes neither bit. -/
theorem test_witness_ControlBitsHaveTheirWriters :
    exec .ei State.reset = .next { State.reset with ime := true } ∧
    exec (.stop 0) State.reset = .next { State.reset with halted := true } ∧
    exec .nop State.reset = .next State.reset := ⟨rfl, rfl, rfl⟩

/-- `ConstructPlacesTheImage`: an image that is not empty, addresses inside and beyond it, in ROM and outside
it. -/
theorem test_witness_ConstructPlacesTheImage :
    ([0x11, 0x22] : List Byte) ≠ [] ∧ (0x7FFF : Word).toNat < 0x8000 ∧
    (0x8000 ≤ (0x8000 : Word).toNat ∧ unmapped 0x8000 = false) ∧
    (0x8000 ≤ (0xFFFF : Word).toNat ∧ unmapped 0xFFFF = false ∧ (0xFFFF : Word) ≠ 0xFF44) := by decide

/-- `PairsAndFlagsAreTheirParts`: `POP AF` of a byte with its low nibble set, and a command from a state with the
unused flag bits 0. -/
theorem test_witness_PairsAndFlagsAreTheirParts :
    (let s := { start [] [(0xC000, 0xFF)] with sp := 0xC000 }
     exec .popAF s = .next (ran .popAF s) ∧ (ran .popAF s).f = 0xF0) ∧
    State.reset.f &&& 0x0F = 0 ∧
    command .step State.reset = .next (.nothing, after State.reset) := ⟨⟨rfl, by decide⟩, by decide, rfl⟩

/-! ### Runs of a launch (R908) -/

/-- How a run has ended: whether it is faulted, with what in `halted`, `PC` and `icount`. -/
structure EndSeen where
  faulted : Bool
  halted : Bool
  pc : Word
  icount : Nat
  deriving DecidableEq, Repr

/-- The end of a run; none while it is not over. -/
def endSeen (p : EndCondition) (schedule : Schedule) (s : State) : Option EndSeen :=
  match runUntil p schedule s with
  | .next (.success t) => some ⟨false, t.halted, t.pc, t.icount⟩
  | .next (.faulted t) => some ⟨true, t.halted, t.pc, t.icount⟩
  | _ => none

/-- Program P5 of 95_test_vectors.md: the run ends on its halt, faulted, three instructions counted. -/
theorem test_P5_ends_faulted :
    endSeen .onHalt [[], [], [], []] (start [0x3E, 0x01, 0xD3, 0x76] []) = some ⟨true, true, 0x0104, 3⟩ := by
  decide

/-- Its run is not over where the budget is a step short. -/
theorem test_P5_not_over : endSeen .onHalt [[], []] (start [0x3E, 0x01, 0xD3, 0x76] []) = none := by decide

/-- `RunEndsAtTheFirstBoundary`: a run that ends at the boundary before its first step. -/
theorem test_witness_run_ends_at_once :
    endSeen (.atAddress 0x0100) [] (start [0x3C] []) = some ⟨false, false, 0x0100, 0⟩ := by decide

/-- A run that ends with budget left. -/
theorem test_witness_run_ends_early :
    endSeen (.atAddress 0x0101) [[], []] (start [0x3C] []) = some ⟨false, false, 0x0101, 1⟩ := by decide

/-- A run whose wake-up by a poke would come after its end (log entry 24). -/
theorem test_witness_run_ends_before_poke :
    endSeen .onHalt [[], [(0xFFFF, 0x01), (0xFF0F, 0x01)]] (start [0x76] []) =
      some ⟨false, true, 0x0101, 1⟩ := by decide

/-- Whether a run reaches a step boundary at which an interrupt is due. -/
def interruptSeen (p : EndCondition) (schedule : Schedule) (s : State) : Bool :=
  match runUntil p schedule s with
  | .next (.interruptDue _) => true
  | _ => false

/-- A poke makes an interrupt due while `IME` is 1, and not while it is 0 (R805). -/
theorem test_premise_broken_by_poke :
    let pokes : Pokes := [(0xFFFF, 0x01), (0xFF0F, 0x01)]
    interruptSeen (.atAddress 0x0101) [pokes] { start [0x00] [] with ime := true } = true ∧
      interruptSeen (.atAddress 0x0101) [pokes] (start [0x00] []) = false := by decide

/-- Bits 7 to 5 of `IE` and `IF` are no interrupt. -/
theorem test_premise_kept_by_high_bits :
    interruptSeen (.atAddress 0x0101) [[(0xFFFF, 0xE0), (0xFF0F, 0xE0)]] { start [0x00] [] with ime := true } =
      false := by decide

/-- `EI` with an interrupt pending, within a run and at the end of one. -/
theorem test_premise_broken_by_ei :
    interruptSeen (.atAddress 0x0102) [[], []] { start [0xFB] [] with ie := 0x10, iflag := 0x10 } = true := by
  decide

theorem test_premise_broken_at_end :
    interruptSeen (.atAddress 0x0101) [[]] { start [0xFB] [] with ie := 0x10, iflag := 0x10 } = true := by decide

/-- `RunEndsAtTheFirstBoundary`: `NoInterruptDue` holds of the run from reset with no step, and fails where `IME`
is 1 and an interrupt is pending. -/
theorem test_witness_NoInterruptDue :
    NoInterruptDue .onHalt [] State.reset ∧
      ¬NoInterruptDue .onHalt [] { State.reset with ime := true, ie := 0x01, iflag := 0x01 } :=
  ⟨(noInterruptDue_nil _ _).2 rfl, fun h => absurd h.here (by decide)⟩

/-- Its launch clauses: an empty image, and an image with and without a reset. -/
theorem test_witness_launch :
    (⟨[], none, .onHalt⟩ : Launch).run [] = none ∧ construct [0x00] = some State.reset ∧
    (⟨[0x00], some .alt, .onHalt⟩ : Launch).start = some (State.reset.resetCommand .alt) :=
  ⟨rfl, by decide, by decide⟩

end Sys2Proof.Tests
end

section
/-! SUPPORT. Registers, flags, reset and signals (10_state.md): the pairs and the flags byte as numbers, the
effect of every step and every host command, the unused flag bits, `unimpl`, and the statements about them. -/

open Sys2Proof Sys2Proof.Machine Sys2Proof.Claims

namespace Sys2Proof.Machine

/-! ### The flags byte as a number (R33, R34) -/

/-- Clearing the four lowest bits of a bit vector rounds it down to a multiple of 16. -/
theorem toNat_and_allOnes_shiftLeft_four {w : Nat} (v : BitVec w) :
    (v &&& BitVec.allOnes w <<< 4).toNat = v.toNat / 16 * 16 := by
  have hle : v.toNat / 16 * 16 < 2 ^ w := (Nat.div_mul_le_self _ _).trans_lt v.isLt
  rw [← BitVec.shiftLeft_ushiftRight, BitVec.toNat_shiftLeft, BitVec.toNat_ushiftRight,
    Nat.shiftLeft_eq, Nat.shiftRight_eq_div_pow]
  exact Nat.mod_eq_of_lt hle

theorem maskFlags_toNat (v : Byte) : (maskFlags v).toNat = v.toNat / 16 * 16 :=
  toNat_and_allOnes_shiftLeft_four v

/-- The value of the flags byte is that of its four flags at their weights. -/
theorem readF_toNat (s : State) :
    s.readF.toNat = 128 * s.flagZ.toNat + 64 * s.flagN.toNat + 32 * s.flagH.toNat + 16 * s.flagC.toNat := by
  have hf := s.f.isLt
  simp only [State.readF, maskFlags_toNat, State.flagZ, State.flagN, State.flagH, State.flagC,
    BitVec.getLsbD, Nat.toNat_testBit]
  omega

/-! ### The pairs (R31, R32) -/

@[simp] theorem setBC_bc (s : State) (v : Word) : (s.setBC v).bc = v := setPair_pair s .bc v
@[simp] theorem setDE_de (s : State) (v : Word) : (s.setDE v).de = v := setPair_pair s .de v
@[simp] theorem setHL_hl (s : State) (v : Word) : (s.setHL v).hl = v := setPair_pair s .hl v

/-- `AF` reads back what was written to it, but for the low nibble (R32). -/
theorem setAF_af (s : State) (v : Word) : (s.setAF v).af = v &&& 0xFFF0 := by
  apply BitVec.eq_of_toNat_eq
  have hmask : (v &&& 0xFFF0).toNat = v.toNat / 16 * 16 := toNat_and_allOnes_shiftLeft_four v
  simp only [State.af, State.readF, setAF_a, setAF_f, wordOf_toNat, maskFlags_toNat, hiByte_toNat,
    loByte_toNat, hmask]
  omega

theorem setAF_sameMemory (s : State) (v : Word) : SameMemory s (s.setAF v) := .of_eq rfl rfl rfl

/-! ### The effect of a step and of a command -/

/-- The state after a step (R143). -/
def State.stepped (s : State) : State :=
  if s.halted then s.capture.idle
  else (Shape.run (Instr.shape s.capture.fetch.1) s.capture.fetch.2).finish s.capture.fetch.1

theorem step_eq_stepped (s : State) : step s = .next s.stepped := step_eq s

/-- The state after a command of the host (R815). -/
def Command.effect (cmd : Command) (s : State) : State :=
  match cmd with
  | .step => s.stepped
  | .reset p => s.resetCommand p
  | .clearInvalid => s.clearInvalid
  | .clearUnimpl => s.clearUnimpl
  | .rewind => s.rewind
  | .peekByte a => (s.peekByte a).2
  | .pokeByte a v => s.pokeByte a v
  | .byteRegister _ | .wordRegister _ | .bit _ | .instructionCount | .history => s

/-- Every command answers a next state, that of its effect. -/
theorem command_eq_effect (cmd : Command) (s : State) :
    ∃ reply, command cmd s = .next (reply, cmd.effect s) := by
  cases cmd with
  | step => exact ⟨.nothing, by simp only [command, step_eq_stepped, Command.effect]⟩
  | _ => exact ⟨_, rfl⟩

theorem eq_effect_of_command {cmd : Command} {s : State} {r : Reply × State} (h : command cmd s = .next r) :
    r.2 = cmd.effect s := by
  obtain ⟨reply, hr⟩ := command_eq_effect cmd s
  cases hr.symm.trans h
  rfl

/-- An instruction that answers a state answers the run of its shape. -/
theorem eq_run_of_exec {i : Instr} {s t : State} (h : exec i s = .next t) : t = (Instr.shape i).run s := by
  rw [exec_eq_run] at h
  cases h
  rfl

/-! ### The unused flag bits (R34) -/

theorem fetch_f (s : State) : s.fetch.2.f = s.f := by
  simp only [State.fetch]
  split <;> simp [State.memRead16]

theorem idle_f (s : State) : s.idle.f = s.f := by
  unfold State.idle
  split <;> rfl

theorem finish_f (s : State) (i : Instr) : (s.finish i).f = s.f := by
  unfold State.finish State.advance
  split <;> rfl

theorem resetCommand_low (s : State) (p : Profile) : FlagsLow (s.resetCommand p) := by
  cases p <;> simp [FlagsLow, State.resetCommand, State.loadProfile]

theorem stepped_low {s : State} (h : FlagsLow s) : FlagsLow s.stepped := by
  have hc : FlagsLow s.capture := h
  unfold State.stepped
  split
  · exact hc.of_eq (idle_f _)
  · exact (run_low (hc.of_eq (fetch_f _)) _).of_eq (finish_f _ _)

/-- Every command keeps the unused flag bits 0. -/
theorem effect_low {s : State} (h : FlagsLow s) (cmd : Command) : FlagsLow (cmd.effect s) := by
  cases cmd with
  | step => exact stepped_low h
  | reset p => exact resetCommand_low s p
  | rewind => exact maskFlags_low _
  | peekByte a => exact h.of_eq (load_f s a)
  | pokeByte a v => exact h.of_eq (store_f s a v)
  | clearInvalid | clearUnimpl | byteRegister _ | wordRegister _ | bit _ | instructionCount | history =>
    exact h

/-- `POP AF` stores the byte read at `SP` in `F`, masked. -/
theorem popAF_f (s : State) : ∃ t v, exec .popAF s = .next t ∧ ReadsAs s s.sp v ∧ t.f = v &&& 0xF0 :=
  ⟨s.popPair .af, loByte s.pop16.1, rfl, (pop16_readsAs s).1, rfl⟩

theorem unusedFlagBitsAreZero (s : State) : UnusedFlagBitsAreZero s := by
  refine ⟨maskFlags_low s.f, popAF_f s, resetCommand_low s, fun i t h => ?_, fun cmd r hs h => ?_, rfl⟩
  · rw [eq_run_of_exec h]
    exact run_flags s _
  · rw [eq_effect_of_command h]
    exact effect_low hs cmd

/-! ### The signal `unimpl` (R42) -/

/-- An instruction is an illegal byte by its first byte. -/
theorem opcodeOf_illegal (i : Instr) :
    decide (opcodeOf i ∈ illegalOpcodes) = decide (Instr.shape i = .illegal) := by
  cases i <;> rfl

/-- The illegal bytes are the only instructions that may write `unimpl`. -/
theorem unimpl_notMem_writes {sh : Shape} (h : sh ≠ .illegal) : Item.unimpl ∉ sh.writes := by
  have hop : ∀ x, Item.unimpl ∉ operandItems x := fun x => by cases x <;> simp [operandItems]
  have hpair : ∀ p, Item.unimpl ∉ pairItems p := fun p => by cases p <;> decide
  have hstack : ∀ p, Item.unimpl ∉ stackPairItems p := fun p => by cases p <;> decide
  cases sh with
  | illegal => exact absurd rfl h
  | _ => simp [Shape.writes, flagItems, accessItems, hop, hpair, hstack]

theorem fetch_unimpl (s : State) : s.fetch.2.unimpl = s.unimpl := fetch_same s .unimpl (by decide)

theorem finish_unimpl (s : State) (i : Instr) : (s.finish i).unimpl = s.unimpl :=
  finish_same s i .unimpl (by decide)

/-- An instruction sets `unimpl` if it is an illegal byte, and leaves it alone otherwise. -/
theorem run_unimpl (sh : Shape) (s : State) : (sh.run s).unimpl = (s.unimpl || decide (sh = .illegal)) := by
  by_cases h : sh = .illegal
  · subst h
    simp [Shape.run]
  · have hkeep : (sh.run s).unimpl = s.unimpl := run_same sh s .unimpl (unimpl_notMem_writes h)
    simp [hkeep, h]

/-- No step clears `unimpl`. -/
theorem stepped_unimpl {s : State} (h : s.unimpl = true) : s.stepped.unimpl = true := by
  unfold State.stepped
  split
  · unfold State.idle
    split <;> exact h
  · rw [finish_unimpl, run_unimpl, fetch_unimpl, capture_unimpl, h, Bool.true_or]

/-- No command but `ClearUnimpl` clears `unimpl`. -/
theorem effect_unimpl {s : State} (h : s.unimpl = true) {cmd : Command} (hne : cmd ≠ .clearUnimpl) :
    (cmd.effect s).unimpl = true := by
  cases cmd with
  | step => exact stepped_unimpl h
  | reset p => cases p <;> exact h
  | peekByte a => exact (load_unimpl s a).trans h
  | pokeByte a v => exact (store_unimpl s a v).trans h
  | clearUnimpl => exact absurd rfl hne
  | clearInvalid | rewind | byteRegister _ | wordRegister _ | bit _ | instructionCount | history => exact h

/-! ### The statements -/

/-- Settles O5: the pair writes by the laws of `setPair`, the flags byte by its value as a number, the unused
bits by the effect of each instruction and command. -/
theorem pairsAndFlagsAreTheirParts : Obligations.PairsAndFlagsAreTheirParts := by
  intro s v
  exact ⟨wordOf_toNat _ _, wordOf_toNat _ _, wordOf_toNat _ _, wordOf_toNat _ _,
    setBC_bc s v, hiByte_toNat v, loByte_toNat v,
    setDE_de s v, hiByte_toNat v, loByte_toNat v,
    setHL_hl s v, hiByte_toNat v, loByte_toNat v,
    setAF_af s v, hiByte_toNat v, by rw [setAF_f, maskFlags_toNat, loByte_toNat],
    setPair_same s .bc v, setPair_sameMemory s .bc v,
    setPair_same s .de v, setPair_sameMemory s .de v,
    setHL_same s v, setHL_sameMemory s v,
    setAF_same s v, setAF_sameMemory s v,
    fun _ => ⟨rfl, rfl⟩, readF_toNat s, unusedFlagBitsAreZero s⟩

/-- Settles O44: an instruction sets `unimpl` exactly where its shape is that of an illegal byte, and
`ClearUnimpl` is the one command whose effect writes it. -/
theorem unimplementedSignal : Obligations.UnimplementedSignal := by
  refine ⟨fun i s t h => ?_, fun cmd s r h hu => ⟨fun hclear => ?_, fun hcmd => ?_⟩⟩
  · rw [eq_run_of_exec h, run_unimpl, ← opcodeOf_illegal]
    rfl
  · by_contra hne
    rw [eq_effect_of_command h, effect_unimpl hu hne] at hclear
    cases hclear
  · subst hcmd
    rw [eq_effect_of_command h]
    rfl

/-- Settles O6: the fields of `State.reset` and the flag bits of 0xB0. -/
theorem resetLeavesTheDmgRegisters : Obligations.ResetLeavesTheDmgRegisters :=
  ⟨rfl, rfl, ⟨rfl, rfl, rfl, rfl⟩, rfl, rfl, rfl, rfl, rfl, rfl, rfl, rfl⟩

end Sys2Proof.Machine
end

section
/-! SUPPORT. The bus (20_memory.md): the address map as a table of ranges, the read by region, which memory cells
an address reaches, the signal `invalid` under steps and commands, and the statements about them. -/

open Sys2Proof Sys2Proof.Machine Sys2Proof.Claims

namespace Sys2Proof.Machine

/-! ### The address map (R71) -/

/-- The addresses the table of R71 leaves to a target, with its priority order worked out. -/
def Region.claims (r : Region) (a : Word) : Prop :=
  match r with
  | .rom => a.toNat < 0x8000
  | .vram => 0x8000 ≤ a.toNat ∧ a.toNat < 0xA000
  | .wram0 => 0xC000 ≤ a.toNat ∧ a.toNat < 0xD000
  | .wram1 => 0xD000 ≤ a.toNat ∧ a.toNat < 0xE000
  | .hram => 0xFF80 ≤ a.toNat ∧ a.toNat < 0xFFFF
  | .ie => a = 0xFFFF
  | .iflag => a = 0xFF0F
  | .ly => a = 0xFF44
  | .io => 0xFF00 ≤ a.toNat ∧ a.toNat < 0xFF80 ∧ a ≠ 0xFF0F ∧ a ≠ 0xFF44
  | .unmapped => 0xA000 ≤ a.toNat ∧ a.toNat < 0xC000 ∨ 0xE000 ≤ a.toNat ∧ a.toNat < 0xFF00

/-- The target of an address claims it: every address is claimed. -/
theorem region_claims (a : Word) : (region a).claims a := by
  have ha := a.isLt
  simp only [region]
  split_ifs <;>
    simp only [Region.claims, ne_eq, BitVec.toNat_eq, BitVec.ofNat_eq_ofNat, BitVec.toNat_ofNat] <;> omega

/-- A target that claims an address is its target: no address is claimed twice. -/
theorem region_eq_of_claims {r : Region} {a : Word} (h : r.claims a) : region a = r := by
  cases r <;>
    simp only [Region.claims, ne_eq, BitVec.toNat_eq, BitVec.ofNat_eq_ofNat, BitVec.toNat_ofNat] at h <;>
    simp (disch := omega) only [region, if_pos, if_neg]

theorem region_eq_iff (a : Word) (r : Region) : region a = r ↔ r.claims a :=
  ⟨fun h => h ▸ region_claims a, region_eq_of_claims⟩

/-! ### The read by region (R83) -/

theorem memRead_of_ie (s : State) {a : Word} (h : region a = .ie) :
    s.memRead a = (s.ie, s.record (.read a)) := by
  simp only [State.memRead, State.load, h, record_ie]

theorem memRead_of_iflag (s : State) {a : Word} (h : region a = .iflag) :
    s.memRead a = (s.iflag, s.record (.read a)) := by
  simp only [State.memRead, State.load, h, record_iflag]

theorem memRead_of_ly (s : State) {a : Word} (h : region a = .ly) :
    s.memRead a = (lyValue, { s.record (.read a) with mem := s.mem.set lyCell lyValue }) := by
  simp only [State.memRead, State.load, h, record_mem]

theorem memRead_of_unmapped (s : State) {a : Word} (h : region a = .unmapped) :
    s.memRead a =
      (Config.draw s.draws, { (s.record (.read a)).signalInvalid with draws := s.draws + 1 }) := by
  simp only [State.memRead, State.load, h, record_draws]

theorem memRead_of_plain (s : State) {a : Word} (h : plainRegion (region a) = true) :
    s.memRead a = (s.mem.get a.toNat, s.record (.read a)) := by
  simp only [State.memRead, State.load, record_mem]
  cases hr : region a <;> simp [hr, plainRegion] at h ⊢

/-- The fetch of an instruction with a known first byte reads as many bytes as that byte asks for (R98). -/
theorem fetchReads_opLength (op : Byte) : FetchReads op (opLength op) := by
  intro s hop
  have h := fetch_accesses s
  rwa [memRead_of_byteAt hop] at h

/-! ### The cells an address reaches (R72 to R80) -/

theorem retains_iff (a : Word) : retains a = true ↔ region a ≠ .ly ∧ region a ≠ .unmapped := by
  simp [retains, unmapped, and_comm]

/-- A memory cell that belongs to no plain address is reached by no address. -/
theorem byteAt_set_of_unreached (s : State) {k : Nat} (v : Byte)
    (hk : ∀ a : Word, plainRegion (region a) = true → a.toNat ≠ k) (a : Word) :
    State.byteAt { s with mem := s.mem.set k v } a = s.byteAt a := by
  by_cases h : plainRegion (region a) = true
  · rw [byteAt_plain h, byteAt_plain h, Memory.get_set_other _ (hk a h)]
  · unfold State.byteAt
    cases hr : region a <;> simp [hr, plainRegion] at h ⊢

/-- The byte `IF` stands before the array cell under its address (R78). -/
theorem plain_ne_iflagCell (a : Word) (h : plainRegion (region a) = true) : a.toNat ≠ 0xFF0F := by
  intro he
  have hr : region a = .iflag := region_eq_of_claims (BitVec.eq_of_toNat_eq he)
  simp [hr, plainRegion] at h

/-- A byte written to storage is what the next read of its address returns. -/
theorem memRead_memWrite_same {s : State} (hw : s.mem.wf) {a : Word} (hr : retains a = true) (v : Byte) :
    ((s.memWrite a v).memRead a).1 = v :=
  memRead_of_byteAt (memWrite_byteAt_same s a v hw hr)

/-! ### The signal `invalid` (R82) -/

/-- Accesses never clear `invalid`. -/
theorem Accesses.invalid_of_invalid {evs : List AccessEvent} {s t : State} (h : Accesses evs s t)
    (hs : s.invalid = true) : t.invalid = true := by
  obtain ⟨-, hinvalid⟩ := h
  rw [hinvalid, hs, Bool.true_or]

/-- A step makes some sequence of accesses, and `invalid` is what these leave. -/
theorem step_accesses {s t : State} (h : step s = .next t) : ∃ evs, Accesses evs s t := by
  obtain ⟨evs, htraced⟩ := step_traces h
  exact ⟨evs, htraced.acc⟩

/-- No step clears `invalid`. -/
theorem stepped_invalid {s : State} (h : s.invalid = true) : s.stepped.invalid = true := by
  obtain ⟨evs, hacc⟩ := step_accesses (step_eq_stepped s)
  exact hacc.invalid_of_invalid h

/-- No command but `ClearInvalid` clears `invalid`. -/
theorem effect_invalid {s : State} (h : s.invalid = true) {cmd : Command} (hne : cmd ≠ .clearInvalid) :
    (cmd.effect s).invalid = true := by
  cases cmd with
  | step => exact stepped_invalid h
  | reset p => cases p <;> exact h
  | peekByte a => rw [Command.effect, State.peekByte, load_invalid, h, Bool.true_or]
  | pokeByte a v => rw [Command.effect, State.pokeByte, store_invalid, h, Bool.true_or]
  | clearInvalid => exact absurd rfl hne
  | clearUnimpl | rewind | byteRegister _ | wordRegister _ | bit _ | instructionCount | history => exact h

/-! ### The statements -/

/-- Settles O7: each target of the address map against the ranges of the table. -/
theorem addressMapIsTheTable : Obligations.AddressMapIsTheTable := fun a =>
  ⟨region_eq_iff a .rom, region_eq_iff a .vram, region_eq_iff a .wram0, region_eq_iff a .wram1,
    region_eq_iff a .hram, region_eq_iff a .ie, region_eq_iff a .iflag, region_eq_iff a .ly,
    region_eq_iff a .io, region_eq_iff a .unmapped⟩

/-- Settles O10: a storage address keeps what is stored; other bytes by the frame of the write, the cell behind
0xFF0F because no plain address is there. -/
theorem writesAreReadBack : Obligations.WritesAreReadBack := by
  intro s a v
  refine ⟨fun hw hly hun => ?_, fun b hne => memWrite_byteAt_other s hne v, memRead_byteAt s a,
    byteAt_set_of_unreached s v plain_ne_iflagCell⟩
  have hr : retains a = true := (retains_iff a).2 ⟨hly, hun⟩
  exact ⟨memWrite_byteAt_same s a v hw hr, memRead_memWrite_same hw hr v⟩

/-- Settles O12: the bytes, the accesses and the frame of `Push16`. -/
theorem pushStoresLowByteLower : Obligations.PushStoresLowByteLower := by
  intro s v
  obtain ⟨hhi, hlo⟩ := push16_stored s v
  exact ⟨push16_sp s v, hhi, hlo, push16_accesses s v, push16_same s v, push16_sameMemory s v⟩

/-- Settles O52: a step's recorded accesses account for `invalid`, and `ClearInvalid` is the one command whose
effect clears it. -/
theorem invalidExactlyByUnmappedAccess : Obligations.InvalidExactlyByUnmappedAccess := by
  refine ⟨fun s t h => step_accesses h, fun s a v => ⟨memRead_invalid s a, memWrite_invalid s a v⟩,
    fun cmd s r h hi => ⟨fun hclear => ?_, fun hcmd => ?_⟩⟩
  · by_contra hne
    rw [eq_effect_of_command h, effect_invalid hi hne] at hclear
    cases hclear
  · subst hcmd
    rw [eq_effect_of_command h]
    rfl

/-- Settles O8: the read by region, and the fetch by its accesses. -/
theorem readByRegion : Obligations.ReadByRegion := by
  refine ⟨fun s a => ?_, fetchReads_opLength⟩
  cases h : region a with
  | ie => exact memRead_of_ie s h
  | iflag => exact memRead_of_iflag s h
  | ly => exact memRead_of_ly s h
  | unmapped => exact ⟨s.draws + 1, congrArg Prod.snd (memRead_of_unmapped s h)⟩
  | rom | wram0 | wram1 | hram | vram | io => exact memRead_of_plain s (by rw [h]; rfl)

end Sys2Proof.Machine
end

section
/-! SUPPORT. Encoding and the step (30_encoding.md): what an opcode byte says of an instruction's encoding, fetch
and length, the conditional jumps, the advance, the snapshot under a step, and the statements about them. -/

open Sys2Proof Sys2Proof.Machine Sys2Proof.Claims

namespace Sys2Proof.Machine

/-! ### What the opcode map says of a first byte (R120, R130) -/

theorem encode_of_imm8 {op : Byte} {f : Byte → Instr} (h : decodeFirst op = .imm8 f) (n : Byte) :
    encode (f n) = [op, n] := by
  have he := decodeFirst_encodesAs op
  rw [h] at he
  exact he n

theorem encode_of_imm16 {op : Byte} {f : Word → Instr} (h : decodeFirst op = .imm16 f) (n : Word) :
    encode (f n) = [op, loByte n, hiByte n] := by
  have he := decodeFirst_encodesAs op
  rw [h] at he
  exact he n

/-- The fetch reads as many bytes as the pattern of the first byte has. -/
theorem fetchReads_of_decodeFirst {op : Byte} {p : Pattern} (h : decodeFirst op = p) :
    FetchReads op p.length := by
  rw [← h, ← opLength_eq]
  exact fetchReads_opLength op

theorem decodeFirst_extensionPrefix : decodeFirst 0xCB = .extended := rfl

/-- The length the advance adds is that of the encoding (R146). -/
theorem instrLength_eq (i : Instr) : instrLength i = (encode i).length := by
  rw [instrLength, opLength_eq, opcodeOf]
  obtain ⟨op, he, hd⟩ | ⟨op, f, n, he, hd, -⟩ | ⟨op, f, n, he, hd, -⟩ | ⟨cbop, he, -⟩ := encode_cases i
  · rw [he, List.headD_cons, hd]; rfl
  · rw [he, List.headD_cons, hd]; rfl
  · rw [he, List.headD_cons, hd]; rfl
  · rw [he, List.headD_cons, decodeFirst_extensionPrefix]; rfl

/-! ### Jumps (R501 to R504) -/

/-- The sign extension is the signed byte modulo 65536 (R7). -/
theorem sext16_toNat (v : Byte) : ((sext16 v).toNat : Int) = signed8 v % 65536 := by
  have hv := v.isLt
  unfold sext16 signed8
  split <;> rw [BitVec.toNat_ofNat] <;> omega

theorem relativeTarget_toNat (s : State) (e : Byte) : (s.relativeTarget e).toNat = relative s e := by
  have hext := sext16_toNat e
  simp only [State.relativeTarget, relative, BitVec.toNat_add, BitVec.ofNat_eq_ofNat, BitVec.toNat_ofNat]
  omega

theorem jumped_jump (s : State) (target : Word) : Jumped target.toNat s (s.jump target) :=
  ⟨rfl, rfl, jump_same s target, jump_sameMemory s target⟩

theorem jumpIf_of_true {s : State} {k : Cond} (h : s.cond k = true) (target : Word) :
    s.jumpIf k target = s.jump target := if_pos h

theorem jumpIf_of_false {s : State} {k : Cond} (h : s.cond k = false) (target : Word) :
    s.jumpIf k target = s := if_neg (Bool.eq_false_iff.mp h)

/-- Both outcomes of a conditional jump (R142). -/
theorem jumpIf_outcomes (s : State) (k : Cond) (target : Word) :
    (s.cond k = true → Jumped target.toNat s (s.jumpIf k target)) ∧
      (s.cond k = false → s.jumpIf k target = s) := by
  refine ⟨fun h => ?_, fun h => jumpIf_of_false h target⟩
  rw [jumpIf_of_true h]
  exact jumped_jump s target

theorem decodeFirst_mkJp {k : Nat} (h : k < 4) :
    decodeFirst (BitVec.ofNat 8 (0xC2 + 8 * k)) = .imm16 (mkJp (tableCc k)) := by
  interval_cases k <;> rfl

theorem decodeFirst_mkJr {k : Nat} (h : k < 4) :
    decodeFirst (BitVec.ofNat 8 (0x20 + 8 * k)) = .imm8 (mkJr (tableCc k)) := by
  interval_cases k <;> rfl

/-! ### The advance (R141) -/

theorem advance_of_redirect {s : State} (h : s.redirect = true) (len : Nat) :
    s.advance len = { s with redirect := false } := if_pos h

theorem advance_of_not_redirect {s : State} (h : s.redirect = false) (len : Nat) :
    s.advance len = { s with pc := s.pc + BitVec.ofNat 16 len } := if_neg (Bool.eq_false_iff.mp h)

theorem advance_same (s : State) (len : Nat) : SameExcept [.pc, .redirect] s (s.advance len) := by
  intro x hx
  unfold State.advance
  cases x with
  | pc | redirect => simp at hx
  | _ => split <;> rfl

theorem advance_sameMemory (s : State) (len : Nat) : SameMemory s (s.advance len) := by
  unfold State.advance
  split <;> exact .of_eq rfl rfl rfl

/-! ### The snapshot (R147) -/

/-- No instruction may write the snapshot. -/
theorem snap_notMem_writes (sh : Shape) : Item.snap ∉ sh.writes := by
  have hop : ∀ x, Item.snap ∉ operandItems x := fun x => by cases x <;> simp [operandItems]
  have hpair : ∀ p, Item.snap ∉ pairItems p := fun p => by cases p <;> decide
  have hstack : ∀ p, Item.snap ∉ stackPairItems p := fun p => by cases p <;> decide
  cases sh <;> simp [Shape.writes, flagItems, accessItems, hop, hpair, hstack]

theorem run_snap (sh : Shape) (s : State) : (sh.run s).snap = s.snap :=
  run_same sh s .snap (snap_notMem_writes sh)

theorem fetch_snap (s : State) : s.fetch.2.snap = s.snap := fetch_same s .snap (by decide)

theorem finish_snap (s : State) (i : Instr) : (s.finish i).snap = s.snap :=
  finish_same s i .snap (by decide)

theorem idle_snap (s : State) : s.idle.snap = s.snap := by
  unfold State.idle
  split <;> rfl

/-- After a step the snapshot is what the step captured at its start. -/
theorem stepped_snap (s : State) : s.stepped.snap = s.snapshot := by
  unfold State.stepped
  split
  · rw [idle_snap, capture_snap]
  · rw [finish_snap, run_snap, fetch_snap, capture_snap]

/-! ### The statements -/

/-- Settles O33: encodings and fetches by the opcode map, the meanings by the two outcomes of `jumpIf`. -/
theorem jumpOnCondition : Obligations.JumpOnCondition := by
  refine ⟨fun k a hk => encode_of_imm16 (decodeFirst_mkJp hk) a,
    fun k e hk => encode_of_imm8 (decodeFirst_mkJr hk) e,
    fun k hk => ⟨fetchReads_of_decodeFirst (decodeFirst_mkJp hk),
      fetchReads_of_decodeFirst (decodeFirst_mkJr hk)⟩,
    fun s => ⟨⟨rfl, rfl, rfl, rfl⟩, fun k => ⟨fun a => ?_, fun e => ?_⟩⟩⟩
  · exact ⟨s.jumpIf k a, exec_mkJp k a s, jumpIf_outcomes s k a⟩
  · refine ⟨s.jumpIf k (s.relativeTarget e), exec_mkJr k e s, ?_⟩
    rw [← relativeTarget_toNat]
    exact jumpIf_outcomes s k (s.relativeTarget e)

/-- Settles O48: the snapshot after a step is that of its start. -/
theorem stepCapturesTheRegisters : Obligations.StepCapturesTheRegisters := by
  intro s t h
  have hsnap : t.snap = s.snapshot := by
    rw [step_eq_stepped] at h
    cases h
    exact stepped_snap s
  rw [hsnap]
  exact ⟨rfl, rfl, rfl, rfl, rfl, rfl⟩

/-- Settles O46: the two cases of the advance, the length being that of the encoding. -/
theorem advanceMovesPastTheInstruction : Obligations.AdvanceMovesPastTheInstruction := by
  intro s i
  refine ⟨s.advance (instrLength i), rfl, fun h => ?_, fun h => ?_, advance_same s _, advance_sameMemory s _⟩
  · rw [advance_of_redirect h]
    exact ⟨rfl, rfl⟩
  · rw [advance_of_not_redirect h, instrLength_eq]
    exact ⟨by simp, h⟩

end Sys2Proof.Machine
end

section
/-! SUPPORT. 8-bit arithmetic and logic (40_alu.md): the encodings of the family, the flag computations as numbers
and bits, the accumulator and read-modify-write forms over any operation, and the statements about them. -/

open Sys2Proof Sys2Proof.Machine Sys2Proof.Claims

namespace Sys2Proof.Machine

/-! ### Encodings (R131, R133, R134) -/

theorem encode_of_whole {op : Byte} {i : Instr} (h : decodeFirst op = .whole i) : encode i = [op] := by
  have he := decodeFirst_encodesAs op
  rwa [h] at he

theorem decodeFirst_mkAlu {y z : Nat} (hy : y < 8) (hz : z < 8) :
    decodeFirst (BitVec.ofNat 8 (0x80 + 8 * y + z)) = .whole (mkAlu (tableAlu y) (tableR8 z)) := by
  have fx : fieldX (BitVec.ofNat 8 (0x80 + 8 * y + z)) = 2 := by
    simp only [fieldX, BitVec.toNat_ofNat]; omega
  have fy : fieldY (BitVec.ofNat 8 (0x80 + 8 * y + z)) = y := by
    simp only [fieldY, BitVec.toNat_ofNat]; omega
  have fz : fieldZ (BitVec.ofNat 8 (0x80 + 8 * y + z)) = z := by
    simp only [fieldZ, BitVec.toNat_ofNat]; omega
  simp only [decodeFirst, fx, fy, fz]

theorem decodeFirst_mkAluImm {y : Nat} (hy : y < 8) :
    decodeFirst (BitVec.ofNat 8 (0xC6 + 8 * y)) = .imm8 (mkAluImm (tableAlu y)) := by
  interval_cases y <;> rfl

theorem decodeFirst_mkInc {y : Nat} (hy : y < 8) :
    decodeFirst (BitVec.ofNat 8 (0x04 + 8 * y)) = .whole (mkInc (tableR8 y)) := by
  interval_cases y <;> rfl

theorem decodeFirst_mkDec {y : Nat} (hy : y < 8) :
    decodeFirst (BitVec.ofNat 8 (0x05 + 8 * y)) = .whole (mkDec (tableR8 y)) := by
  interval_cases y <;> rfl

/-- Every operation of the table `alu` has the encodings of its index. -/
theorem accumulatorEncoding_tableAlu {y : Nat} (hy : y < 8) : AccumulatorEncoding (tableAlu y) y :=
  ⟨fun _ hz => encode_of_whole (decodeFirst_mkAlu hy hz), encode_of_imm8 (decodeFirst_mkAluImm hy),
    fetchReads_of_decodeFirst (decodeFirst_mkAluImm hy)⟩

/-! ### Frames and accesses -/

/-- An item a frame lists may be left out where it kept its value. -/
theorem SameExcept.of_kept {xs ys kept : List Item} {s t : State} (h : SameExcept xs s t)
    (hkept : ∀ x ∈ kept, x.same s t) (hsub : xs ⊆ kept ++ ys) : SameExcept ys s t := by
  intro x hy
  by_cases hx : x ∈ xs
  · exact hkept x ((List.mem_append.1 (hsub hx)).resolve_right hy)
  · exact h x hx

theorem SameBus.sameMemory {s t : State} (h : SameBus s t) : SameMemory s t := by
  obtain ⟨hmem, hie, hiflag, -, -⟩ := h
  exact .of_eq hmem hie hiflag

/-- A change that leaves the bus makes no access. -/
theorem Accesses.trans_sameBus {evs : List AccessEvent} {s t u : State} (h : Accesses evs s t)
    (h' : SameBus t u) : Accesses evs s u := by
  obtain ⟨-, -, -, hhistory, hinvalid⟩ := h'
  exact h.congr hhistory hinvalid

theorem setFlags_sameBus (s : State) (z n h c : Bool) : SameBus s (s.setFlags z n h c) :=
  ⟨rfl, rfl, rfl, rfl, rfl⟩

@[simp] theorem memRead_hl (s : State) (a : Word) : (s.memRead a).2.hl = s.hl := by
  simp [State.hl]

@[simp] theorem memRead_flagC (s : State) (a : Word) : (s.memRead a).2.flagC = s.flagC :=
  memRead_same s a .flagC (by decide)

/-! ### The flag computations as numbers and bits (R200 to R203) -/

theorem setFlags_flagsAre (s : State) (z n h c : Bool) : FlagsAre (s.setFlags z n h c) z n h c :=
  ⟨setFlags_flagZ s z n h c, setFlags_flagN s z n h c, setFlags_flagH s z n h c, setFlags_flagC s z n h c⟩

/-- The four flags of `t` are those of the result. -/
def HasFlags (t : State) (r : AluOut) : Prop := FlagsAre t r.z r.n r.h r.c

theorem setFlags_hasFlags (s : State) (r : AluOut) : HasFlags (s.setFlags r.z r.n r.h r.c) r :=
  setFlags_flagsAre s r.z r.n r.h r.c

theorem beq_zero_eq_decide (v : Byte) : (v == 0) = decide (v.toNat = 0) := by
  rw [Bool.eq_iff_iff, beq_iff_eq, decide_eq_true_iff, BitVec.toNat_eq, BitVec.ofNat_eq_ofNat,
    BitVec.toNat_ofNat, Nat.zero_mod]

/-- What `add8` returns is the sum of R200, with its flags. -/
theorem added_of_add8 {s t : State} {v : Byte} {cin : Bool} (ha : t.a = (add8 s.a v cin).res)
    (hf : HasFlags t (add8 s.a v cin)) : Added s t v cin.toNat := by
  obtain ⟨hz, hn, hh, hc⟩ := hf
  refine ⟨by rw [ha]; exact BitVec.toNat_ofNat _ _, ?_, hn, hh, hc⟩
  rw [hz, ha]
  exact beq_zero_eq_decide _

theorem sub8_res_toNat (a v : Byte) (cin : Bool) :
    (sub8 a v cin).res.toNat = (a.toNat + 512 - v.toNat - cin.toNat) % 256 := by
  have hv := v.isLt
  have hcin := Bool.toNat_le cin
  simp only [sub8, BitVec.toNat_ofInt]
  omega

/-- What `sub8` returns is the difference of R201, with its flags. -/
theorem subtracted_of_sub8 {s t : State} {v : Byte} {cin : Bool} (hf : HasFlags t (sub8 s.a v cin)) :
    Subtracted s t v cin.toNat (sub8 s.a v cin).res.toNat := by
  obtain ⟨hz, hn, hh, hc⟩ := hf
  refine ⟨sub8_res_toNat s.a v cin, hz.trans (beq_zero_eq_decide _), hn, hh.trans ?_, hc.trans ?_⟩ <;>
    exact decide_eq_decide.2 (by omega)

/-- What `logic8` returns is the result, bit by bit, with its flags (R202). -/
theorem combined_of_logic8 {t : State} {res : Byte} {half : Bool} {bits : Nat → Bool} (ha : t.a = res)
    (hbits : ∀ k, res.getLsbD k = bits k) (hf : HasFlags t (logic8 res half)) : Combined t bits half := by
  obtain ⟨hz, hn, hh, hc⟩ := hf
  refine ⟨fun k _ => by rw [ha, hbits], ?_, hn, hh, hc⟩
  rw [hz, ha]
  exact beq_zero_eq_decide _

theorem inc8_res_toNat (v : Byte) (c : Bool) : (inc8 v c).res.toNat = (v.toNat + 1) % 256 :=
  BitVec.toNat_add v 1

theorem dec8_res_toNat (v : Byte) (c : Bool) : (dec8 v c).res.toNat = (v.toNat + 255) % 256 := by
  rw [Nat.add_comm]
  exact BitVec.toNat_sub v 1

/-! ### The accumulator forms (R204) -/

theorem applyAlu_hasFlags (s : State) (op : AluOp) (v : Byte) :
    HasFlags (s.applyAlu op v) (alu op s.a v s.flagC) := by
  cases op <;> exact setFlags_hasFlags s _

theorem applyAlu_a (s : State) {op : AluOp} (hne : op ≠ .cp) (v : Byte) :
    (s.applyAlu op v).a = (alu op s.a v s.flagC).res := by
  cases op with
  | cp => exact absurd rfl hne
  | add | adc | sub | sbc | and | xor | or => rfl

/-- `CP` writes the flags alone (R231). -/
theorem applyAlu_cp_same (s : State) (v : Byte) : SameExcept flagItems s (s.applyAlu .cp v) :=
  setFlags_same s _ _ _ _

/-- An accumulator instruction in its three forms, from what its operation does with a source value in any state
that agrees with the first on `A` and `C`: a read of `(HL)` leaves both. -/
theorem accumulatorForms_of_applyAlu {op : AluOp} {written : List Item} {result : State → State → Byte → Prop}
    (hframe : ∀ s v, SameExcept written s (s.applyAlu op v))
    (hresult : ∀ (s u : State) (v : Byte), u.a = s.a → u.flagC = s.flagC → result s (u.applyAlu op v) v) :
    AccumulatorForms op written result := by
  intro s
  have himm : ∀ v, result s (s.applyAlu op v) v ∧ SameExcept written s (s.applyAlu op v) ∧
      SameMemory s (s.applyAlu op v) := fun v =>
    ⟨hresult s s v rfl rfl, hframe s v, (applyAlu_sameBus s op v).sameMemory⟩
  refine ⟨fun r => ⟨_, exec_mkAlu op (.reg r) s, himm _⟩, fun n => ⟨_, exec_mkAluImm op n s, himm n⟩,
    _, (s.memRead s.hl).1, exec_mkAlu op .atHL s, memRead_readsAs s s.hl, ?_, ?_, ?_, ?_⟩
  · exact hresult s _ _ (memRead_a s s.hl) (memRead_flagC s s.hl)
  · exact (memRead_accesses s s.hl).trans_sameBus (applyAlu_sameBus _ op _)
  · exact ((memRead_same s s.hl).trans (hframe _ _)).mono List.perm_append_comm.subset
  · exact (memRead_sameMemory s s.hl).trans (applyAlu_sameBus _ op _).sameMemory

/-- The forms of an operation that writes `A`, from what `alu` returns for it. -/
theorem accumulatorForms_of_alu {op : AluOp} (hne : op ≠ .cp) {result : State → State → Byte → Prop}
    (hresult : ∀ s t v, t.a = (alu op s.a v s.flagC).res → HasFlags t (alu op s.a v s.flagC) →
      result s t v) : AccumulatorForms op (.reg .a :: flagItems) result := by
  refine accumulatorForms_of_applyAlu (fun s v => applyAlu_same s op v) fun s u v ha hc => ?_
  apply hresult <;> rw [← ha, ← hc]
  · exact applyAlu_a u hne v
  · exact applyAlu_hasFlags u op v

/-! ### The read-modify-write forms (R84) -/

/-- A read of an operand, its replacement by a computed value, and the flags of the computation. -/
def State.modifyOperand (s : State) (f : Byte → Bool → AluOut) (x : Operand8) : State :=
  let v := s.readOperand x
  let r := f v.1 v.2.flagC
  (v.2.writeOperand x r.res).setFlags r.z r.n r.h r.c

theorem incrementOperand_eq_modifyOperand (s : State) (x : Operand8) :
    s.incrementOperand x = s.modifyOperand inc8 x := rfl

theorem decrementOperand_eq_modifyOperand (s : State) (x : Operand8) :
    s.decrementOperand x = s.modifyOperand dec8 x := rfl

theorem modifyOperand_reg_hasFlags (s : State) (f : Byte → Bool → AluOut) (r : Reg8) :
    HasFlags (s.modifyOperand f (.reg r)) (f (s.reg8 r) s.flagC) :=
  setFlags_hasFlags _ _

theorem modifyOperand_reg_reg8 (s : State) (f : Byte → Bool → AluOut) (r : Reg8) :
    (s.modifyOperand f (.reg r)).reg8 r = (f (s.reg8 r) s.flagC).res :=
  (setFlags_reg8 _ _ _ _ _ r).trans (setReg8_reg8_same s r _)

theorem modifyOperand_reg_same (s : State) (f : Byte → Bool → AluOut) (r : Reg8) :
    SameExcept (.reg r :: flagItems) s (s.modifyOperand f (.reg r)) :=
  (setReg8_same s r _).trans (setFlags_same _ _ _ _ _)

theorem modifyOperand_reg_sameMemory (s : State) (f : Byte → Bool → AluOut) (r : Reg8) :
    SameMemory s (s.modifyOperand f (.reg r)) :=
  (setReg8_sameMemory s r _).trans (setFlags_sameMemory _ _ _ _ _)

/-- The memory form is a read, a write at the same address, and a write of the flags. -/
theorem modifyOperand_atHL (s : State) (f : Byte → Bool → AluOut) :
    let r := f (s.memRead s.hl).1 s.flagC
    s.modifyOperand f .atHL = ((s.memRead s.hl).2.memWrite s.hl r.res).setFlags r.z r.n r.h r.c := by
  simp only [State.modifyOperand, State.readOperand, State.writeOperand, memRead_hl, memRead_flagC]

theorem modifyOperand_atHL_hasFlags (s : State) (f : Byte → Bool → AluOut) :
    HasFlags (s.modifyOperand f .atHL) (f (s.memRead s.hl).1 s.flagC) := by
  rw [modifyOperand_atHL]
  exact setFlags_hasFlags _ _

theorem modifyOperand_atHL_accesses (s : State) (f : Byte → Bool → AluOut) :
    Accesses [.read s.hl, .write s.hl (f (s.memRead s.hl).1 s.flagC).res] s (s.modifyOperand f .atHL) := by
  rw [modifyOperand_atHL]
  exact ((memRead_accesses s s.hl).trans (memWrite_accesses _ s.hl _)).trans_sameBus
    (setFlags_sameBus _ _ _ _ _)

theorem modifyOperand_atHL_stored (s : State) (f : Byte → Bool → AluOut) :
    Stored s (s.modifyOperand f .atHL) s.hl (f (s.memRead s.hl).1 s.flagC).res := by
  intro hw hr
  rw [modifyOperand_atHL, setFlags_sameMemory]
  exact memWrite_byteAt_same _ s.hl _ (memRead_mem_wf hw s.hl) hr

theorem modifyOperand_atHL_same (s : State) (f : Byte → Bool → AluOut) :
    SameExcept (flagItems ++ accessItems) s (s.modifyOperand f .atHL) := by
  rw [modifyOperand_atHL]
  exact (((memRead_same s s.hl).trans (memWrite_same _ s.hl _)).trans (setFlags_same _ _ _ _ _)).mono
    (by decide)

theorem modifyOperand_atHL_sameMemory (s : State) (f : Byte → Bool → AluOut) :
    SameMemoryExcept [s.hl] s (s.modifyOperand f .atHL) := by
  intro a ha
  rw [modifyOperand_atHL, setFlags_sameMemory, memWrite_sameMemory _ _ _ a ha, memRead_sameMemory]

/-- A read-modify-write instruction in its two forms, from what its computation returns: `kept` lists the flags
that the computation passes through. -/
theorem modifyForms_of_modifyOperand {i : Operand8 → Instr} {f : Byte → Bool → AluOut}
    {written kept : List Item} {result : State → State → Byte → Byte → Prop}
    (hexec : ∀ s x, exec (i x) s = .next (s.modifyOperand f x))
    (hresult : ∀ s t v, HasFlags t (f v s.flagC) → result s t v (f v s.flagC).res)
    (hkept : ∀ s t v, HasFlags t (f v s.flagC) → ∀ x ∈ kept, x.same s t)
    (hsub : flagItems ⊆ kept ++ written) : ModifyForms i written result := by
  intro s
  refine ⟨fun r => ⟨_, hexec s (.reg r), ?_, ?_, modifyOperand_reg_sameMemory s f r⟩,
    _, (s.memRead s.hl).1, (f (s.memRead s.hl).1 s.flagC).res, hexec s .atHL, memRead_readsAs s s.hl, ?_,
    modifyOperand_atHL_stored s f, modifyOperand_atHL_accesses s f, ?_, modifyOperand_atHL_sameMemory s f⟩
  · rw [modifyOperand_reg_reg8]
    exact hresult s _ _ (modifyOperand_reg_hasFlags s f r)
  · refine (modifyOperand_reg_same s f r).of_kept (hkept s _ _ (modifyOperand_reg_hasFlags s f r)) ?_
    exact List.cons_subset.2 ⟨by simp, List.Subset.trans hsub (by simp)⟩
  · exact hresult s _ _ (modifyOperand_atHL_hasFlags s f)
  · refine (modifyOperand_atHL_same s f).of_kept (hkept s _ _ (modifyOperand_atHL_hasFlags s f)) ?_
    rw [← List.append_assoc]
    exact List.append_subset.2 ⟨List.Subset.trans hsub (by simp), by simp⟩

/-! ### The decimal adjust (R238) -/

/-- Whether the low digit is corrected. -/
def correctsLow (a : Byte) (n h : Bool) : Bool := h || (!n && decide (a.toNat % 16 > 9))

/-- Whether the high digit is corrected. -/
def correctsHigh (a : Byte) (n c : Bool) : Bool := c || (!n && decide (a.toNat > 0x99))

/-- The correction. -/
def correction (low high : Bool) : Byte := (if low then 0x06 else 0) ||| (if high then 0x60 else 0)

theorem correctsLow_iff {a : Byte} {n h : Bool} :
    correctsLow a n h = true ↔ h = true ∨ n = false ∧ 9 < a.toNat % 16 := by
  simp [correctsLow]

theorem correctsHigh_iff {a : Byte} {n c : Bool} :
    correctsHigh a n c = true ↔ c = true ∨ n = false ∧ 0x99 < a.toNat := by
  simp [correctsHigh]

/-- Each digit's share of the correction stands under its own test. -/
theorem correction_cases (low high : Bool) :
    (low = true ∧ high = true → (correction low high).toNat = 0x66) ∧
      (low = true ∧ ¬high = true → (correction low high).toNat = 0x06) ∧
      (¬low = true ∧ high = true → (correction low high).toNat = 0x60) ∧
      (¬low = true ∧ ¬high = true → (correction low high).toNat = 0) := by
  cases low <;> cases high <;> decide

theorem decimalAdjust_eq (a : Byte) (n h c : Bool) :
    let u := correction (correctsLow a n h) (correctsHigh a n c)
    let res := if n then a - u else a + u
    decimalAdjust a n h c = { res, z := res == 0, n, h := false, c := correctsHigh a n c } := rfl

theorem decimalAdjust_res_toNat_of_add {a : Byte} {n : Bool} (hn : n = false) (h c : Bool) :
    (decimalAdjust a n h c).res.toNat =
      (a.toNat + (correction (correctsLow a n h) (correctsHigh a n c)).toNat) % 256 := by
  subst hn
  exact BitVec.toNat_add _ _

theorem decimalAdjust_res_toNat_of_sub {a : Byte} {n : Bool} (hn : n = true) (h c : Bool) :
    (decimalAdjust a n h c).res.toNat =
      (a.toNat + 256 - (correction (correctsLow a n h) (correctsHigh a n c)).toNat) % 256 := by
  subst hn
  rw [decimalAdjust_eq, if_pos rfl, BitVec.toNat_sub]
  omega

theorem adjustDecimal_hasFlags (s : State) :
    HasFlags s.adjustDecimal (decimalAdjust s.a s.flagN s.flagH s.flagC) :=
  setFlags_hasFlags _ _

theorem adjustDecimal_a (s : State) :
    s.adjustDecimal.a = (decimalAdjust s.a s.flagN s.flagH s.flagC).res := rfl

theorem adjustDecimal_same (s : State) :
    SameExcept [.reg .a, .flagZ, .flagH, .flagC] s s.adjustDecimal := by
  obtain ⟨-, hn, -, -⟩ := adjustDecimal_hasFlags s
  have h : SameExcept (.reg .a :: flagItems) s s.adjustDecimal :=
    (setA_same s _).trans (setFlags_same _ _ _ _ _)
  exact h.of_kept (kept := [.flagN]) (List.forall_mem_singleton.2 hn) (by decide)

theorem adjustDecimal_sameMemory (s : State) : SameMemory s s.adjustDecimal := .of_eq rfl rfl rfl

/-! ### `CPL`, `SCF`, `CCF` (R239 to R241) -/

theorem complementA_same (s : State) : SameExcept [.reg .a, .flagN, .flagH] s s.complementA := by
  have h : SameExcept (.reg .a :: flagItems) s s.complementA :=
    (setA_same s _).trans (setFlags_same _ _ _ _ _)
  exact h.of_kept (kept := [.flagZ, .flagC])
    (by simp [Item.same, State.complementA]) (by decide)

/-- A write of the flags that passes `Z` through writes the other three. -/
theorem setFlags_flagZ_same (s : State) (n h c : Bool) :
    SameExcept [.flagN, .flagH, .flagC] s (s.setFlags s.flagZ n h c) :=
  (setFlags_same s _ n h c).of_kept (kept := [.flagZ])
    (List.forall_mem_singleton.2 (setFlags_flagZ s _ n h c)) (by decide)

/-! ### The statements -/

/-- Settles O22: the accumulator forms of what `add8` returns. -/
theorem addToAccumulator : Obligations.AddToAccumulator :=
  ⟨accumulatorEncoding_tableAlu (y := 0) (by decide), accumulatorEncoding_tableAlu (y := 1) (by decide),
    accumulatorForms_of_alu (by decide) fun _ _ _ ha hf => added_of_add8 ha hf,
    accumulatorForms_of_alu (by decide) fun _ _ _ ha hf => added_of_add8 ha hf⟩

/-- Settles O23: the accumulator forms of what `sub8` returns; `CP` leaves its result unwritten. -/
theorem subtractFromAccumulator : Obligations.SubtractFromAccumulator := by
  refine ⟨accumulatorEncoding_tableAlu (y := 2) (by decide), accumulatorEncoding_tableAlu (y := 3) (by decide),
    accumulatorEncoding_tableAlu (y := 7) (by decide), accumulatorForms_of_alu (by decide) fun s t v ha hf => ?_,
    accumulatorForms_of_alu (by decide) fun s t v ha hf => ?_,
    accumulatorForms_of_applyAlu applyAlu_cp_same fun s u v ha _ => ?_⟩
  · rw [ha]
    exact subtracted_of_sub8 (cin := false) hf
  · rw [ha]
    exact subtracted_of_sub8 hf
  · have hf : HasFlags (u.applyAlu .cp v) (sub8 u.a v false) := applyAlu_hasFlags u .cp v
    rw [ha] at hf
    exact ⟨_, subtracted_of_sub8 hf⟩

/-- Settles O24: the accumulator forms of what `logic8` returns for each operation on the bits. -/
theorem combineWithAccumulator : Obligations.CombineWithAccumulator :=
  ⟨accumulatorEncoding_tableAlu (y := 4) (by decide), accumulatorEncoding_tableAlu (y := 5) (by decide),
    accumulatorEncoding_tableAlu (y := 6) (by decide),
    accumulatorForms_of_alu (by decide) fun _ _ _ ha hf =>
      combined_of_logic8 ha (fun _ => BitVec.getLsbD_and) hf,
    accumulatorForms_of_alu (by decide) fun _ _ _ ha hf =>
      combined_of_logic8 ha (fun _ => BitVec.getLsbD_xor) hf,
    accumulatorForms_of_alu (by decide) fun _ _ _ ha hf =>
      combined_of_logic8 ha (fun _ => BitVec.getLsbD_or) hf⟩

/-- Settles O25: the read-modify-write forms of `inc8` and `dec8`, which pass `C` through. -/
theorem incrementAndDecrement : Obligations.IncrementAndDecrement := by
  refine ⟨fun y hy => ⟨encode_of_whole (decodeFirst_mkInc hy), encode_of_whole (decodeFirst_mkDec hy)⟩,
    modifyForms_of_modifyOperand (f := inc8) (kept := [.flagC]) (fun s x => exec_mkInc x s)
      (fun s t v hf => ?_) (fun s t v hf => ?_) (by decide),
    modifyForms_of_modifyOperand (f := dec8) (kept := [.flagC]) (fun s x => exec_mkDec x s)
      (fun s t v hf => ?_) (fun s t v hf => ?_) (by decide)⟩ <;>
    obtain ⟨hz, hn, hh, hc⟩ := hf
  · exact ⟨inc8_res_toNat v s.flagC, hz.trans (beq_zero_eq_decide _), hn, hh, hc⟩
  · exact List.forall_mem_singleton.2 hc
  · exact ⟨dec8_res_toNat v s.flagC, hz.trans (beq_zero_eq_decide _), hn, hh, hc⟩
  · exact List.forall_mem_singleton.2 hc

/-- Settles O26: the two tests as Booleans, the correction by its four cases, the result by the direction `N`
gives. (`decimalAdjust` is the model's own name.) -/
theorem daaDecimalAdjust : Obligations.DecimalAdjust := by
  refine ⟨rfl, fun s => ?_⟩
  obtain ⟨hz, hn, hh, hc⟩ := adjustDecimal_hasFlags s
  simp only [← correctsLow_iff, ← correctsHigh_iff]
  obtain ⟨hboth, hlow, hhigh, hnone⟩ :=
    correction_cases (correctsLow s.a s.flagN s.flagH) (correctsHigh s.a s.flagN s.flagC)
  exact ⟨s.adjustDecimal, _, rfl, hboth, hlow, hhigh, hnone,
    fun hN => decimalAdjust_res_toNat_of_add hN s.flagH s.flagC,
    fun hN => decimalAdjust_res_toNat_of_sub hN s.flagH s.flagC,
    hz.trans (beq_zero_eq_decide _), hn, hh, Bool.eq_iff_iff.1 hc, adjustDecimal_same s,
    adjustDecimal_sameMemory s⟩

/-- Settles O28: the complement as a number, the flags written, and the ones passed through. -/
theorem complementAndCarryFlag : Obligations.ComplementAndCarryFlag :=
  ⟨rfl, rfl, rfl, fun s =>
    ⟨⟨s.complementA, rfl, BitVec.toNat_not, setFlags_flagsAre _ _ _ _ _, complementA_same s,
        .of_eq rfl rfl rfl⟩,
      ⟨s.setCarry, rfl, setFlags_flagsAre _ _ _ _ _, setFlags_flagZ_same s _ _ _,
        setFlags_sameMemory s _ _ _ _⟩,
      ⟨s.complementCarry, rfl, setFlags_flagsAre _ _ _ _ _, setFlags_flagZ_same s _ _ _,
        setFlags_sameMemory s _ _ _ _⟩⟩⟩

end Sys2Proof.Machine
end

section
/-! SUPPORT. Loads, stores and stack transfers (41_loads.md): the encodings of the family, what a load, a store, a
transfer that steps `HL` and a pop leave, and the statements about them. -/

open Sys2Proof Sys2Proof.Machine Sys2Proof.Claims

namespace Sys2Proof.Machine

/-! ### Encodings (R131, R132, R134) -/

theorem decodeFirst_mkLoad {y z : Nat} (hy : y < 8) (hz : z < 8) :
    decodeFirst (BitVec.ofNat 8 (0x40 + 8 * y + z)) = .whole (mkLoad (tableR8 y) (tableR8 z)) := by
  have fx : fieldX (BitVec.ofNat 8 (0x40 + 8 * y + z)) = 1 := by
    simp only [fieldX, BitVec.toNat_ofNat]; omega
  have fy : fieldY (BitVec.ofNat 8 (0x40 + 8 * y + z)) = y := by
    simp only [fieldY, BitVec.toNat_ofNat]; omega
  have fz : fieldZ (BitVec.ofNat 8 (0x40 + 8 * y + z)) = z := by
    simp only [fieldZ, BitVec.toNat_ofNat]; omega
  simp only [decodeFirst, fx, fy, fz]

theorem decodeFirst_mkLoadImm {y : Nat} (hy : y < 8) :
    decodeFirst (BitVec.ofNat 8 (0x06 + 8 * y)) = .imm8 (mkLoadImm (tableR8 y)) := by
  interval_cases y <;> rfl

theorem decodeFirst_mkLdPair {p : Nat} (hp : p < 4) :
    decodeFirst (BitVec.ofNat 8 (0x01 + 16 * p)) = .imm16 (mkLdPair (tableRp p)) := by
  interval_cases p <;> rfl

theorem decodeFirst_mkPush {p : Nat} (hp : p < 4) :
    decodeFirst (BitVec.ofNat 8 (0xC5 + 16 * p)) = .whole (mkPush (tableRp2 p)) := by
  interval_cases p <;> rfl

theorem encode_mkLoad {y z : Nat} (hy : y < 8) (hz : z < 8) :
    encode (mkLoad (tableR8 y) (tableR8 z)) = [BitVec.ofNat 8 (0x40 + 8 * y + z)] :=
  encode_of_whole (decodeFirst_mkLoad hy hz)

/-- In the column of `(HL)` the index 6 is part of the opcode's constant. -/
theorem encode_mkLoad_atHL {y : Nat} (hy : y < 8) :
    encode (mkLoad (tableR8 y) .atHL) = [BitVec.ofNat 8 (0x46 + 8 * y)] := by
  have hop : 0x46 + 8 * y = 0x40 + 8 * y + 6 := by omega
  rw [hop]
  exact encode_mkLoad hy (z := 6) (by decide)

/-! ### The high page (R128) -/

theorem highPage_toNat (n : Byte) : (highPage n).toNat = 0xFF00 + n.toNat := by
  have hn := n.isLt
  simp only [highPage, BitVec.toNat_ofNat]
  omega

/-- The unmapped ranges end below the high page. -/
theorem highPage_mapped (n : Byte) : unmapped (highPage n) = false := by
  refine beq_eq_false_iff_ne.2 fun h => ?_
  have hclaims : Region.claims .unmapped (highPage n) := (region_eq_iff _ _).1 h
  simp only [Region.claims, highPage_toNat] at hclaims
  omega

/-! ### Register writes and the bus -/

theorem setReg8_sameBus (s : State) (r : Reg8) (v : Byte) : SameBus s (s.setReg8 r v) :=
  ⟨setReg8_mem s r v, setReg8_ie s r v, setReg8_iflag s r v, setReg8_history s r v, setReg8_invalid s r v⟩

theorem setHL_sameBus (s : State) (v : Word) : SameBus s (s.setHL v) := ⟨rfl, rfl, rfl, rfl, rfl⟩

theorem setStackPair_sameBus (s : State) (p : StackPair) (v : Word) : SameBus s (s.setStackPair p v) :=
  ⟨setStackPair_mem s p v, setStackPair_ie s p v, setStackPair_iflag s p v, setStackPair_history s p v,
    setStackPair_invalid s p v⟩

/-- A byte stored stays where the memory does not change after it. -/
theorem Stored.trans_sameMemory {s t u : State} {a : Word} {v : Byte} (h : Stored s t a v)
    (h' : SameMemory t u) : Stored s u a v :=
  fun hw hr => (h' a).trans (h hw hr)

/-! ### One load and one store -/

theorem loadedFrom_loadRegister (s : State) (dst : Reg8) (a : Word) :
    LoadedFrom dst a s (s.loadRegister dst a) := by
  refine ⟨?_, (memRead_accesses s a).trans_sameBus (setReg8_sameBus _ dst _),
    ((memRead_same s a).trans (setReg8_same _ dst _)).mono List.perm_append_comm.subset,
    (memRead_sameMemory s a).trans (setReg8_sameMemory _ dst _)⟩
  have hdst : (s.loadRegister dst a).reg8 dst = (s.memRead a).1 := setReg8_reg8_same _ dst _
  rw [hdst]
  exact memRead_readsAs s a

theorem storedTo_memWrite (s : State) (a : Word) (v : Byte) : StoredTo a v s (s.memWrite a v) :=
  ⟨memWrite_byteAt_same s a v, memWrite_accesses s a v, memWrite_same s a v, memWrite_sameMemory s a v⟩

/-! ### The transfers that step `HL` (R309 to R312) -/

theorem setHL_add_hl_toNat (s : State) (v delta : Word) :
    (s.setHL (v + delta)).hl.toNat = (v.toNat + delta.toNat) % 65536 := by
  rw [setHL_hl]
  exact BitVec.toNat_add v delta

/-- The store is at the old `HL`; the move of `HL` after it leaves the bus. -/
theorem storeAStepHL_effect (s : State) (delta : Word) :
    Stored s (s.storeAStepHL delta) s.hl s.a ∧
      (s.storeAStepHL delta).hl.toNat = (s.hl.toNat + delta.toNat) % 65536 ∧
      Accesses [.write s.hl s.a] s (s.storeAStepHL delta) ∧
      SameExcept [.reg .h, .reg .l, .invalid, .history] s (s.storeAStepHL delta) ∧
      SameMemoryExcept [s.hl] s (s.storeAStepHL delta) := by
  obtain ⟨hstored, haccesses, -, hmemory⟩ := storedTo_memWrite s s.hl s.a
  have hstep := setHL_sameMemory (s.memWrite s.hl s.a) (s.hl + delta)
  exact ⟨hstored.trans_sameMemory hstep, setHL_add_hl_toNat _ s.hl delta,
    haccesses.trans_sameBus (setHL_sameBus _ _), run_same (.storeStep delta) s,
    hmemory.trans (hstep.except [])⟩

/-- The load is from the old `HL`; the move of `HL` after it leaves `A` and the bus. -/
theorem loadAStepHL_effect (s : State) (delta : Word) :
    ReadsAs s s.hl (s.loadAStepHL delta).a ∧
      (s.loadAStepHL delta).hl.toNat = (s.hl.toNat + delta.toNat) % 65536 ∧
      Accesses [.read s.hl] s (s.loadAStepHL delta) ∧
      SameExcept (.reg .a :: .reg .h :: .reg .l :: accessItems) s (s.loadAStepHL delta) ∧
      SameMemory s (s.loadAStepHL delta) := by
  obtain ⟨hread, haccesses, -, hmemory⟩ := loadedFrom_loadRegister s .a s.hl
  exact ⟨hread, setHL_add_hl_toNat _ s.hl delta, haccesses.trans_sameBus (setHL_sameBus _ _),
    run_same (.loadStep delta) s, hmemory.trans (setHL_sameMemory _ _)⟩

/-! ### The stack transfers (R322 to R325) -/

/-- The flags byte as a program reads it is `F` with its low nibble 0. -/
theorem af_toNat (s : State) : s.af.toNat = s.a.toNat * 256 + s.f.toNat / 16 * 16 := by
  rw [State.af, wordOf_toNat, State.readF, maskFlags_toNat]

/-- A write of a register pair after `Pop16` leaves what `Pop16` did to `SP` and the bus. -/
theorem popped_popPair (s : State) (p : StackPair) :
    Popped (loByte s.pop16.1) (hiByte s.pop16.1) (stackPairItems p) s (s.popPair p) := by
  obtain ⟨hlo, hhi⟩ := pop16_readsAs s
  have hbus := setStackPair_sameBus s.pop16.2 p s.pop16.1
  exact ⟨hlo, hhi, (setStackPair_sp _ p _).trans (pop16_sp s), (pop16_accesses s).trans_sameBus hbus,
    run_same (.pop p) s, (pop16_sameMemory s).trans hbus.sameMemory⟩

/-- The mask keeps the bits it has. -/
theorem maskFlags_getLsbD (v : Byte) {k : Nat} (hk : (0xF0 : Byte).getLsbD k = true) :
    (maskFlags v).getLsbD k = v.getLsbD k := by
  rw [maskFlags, BitVec.getLsbD_and, hk, Bool.and_true]

theorem setAF_flagsAre (s : State) (v : Word) :
    FlagsAre (s.setAF v) ((loByte v).getLsbD 7) ((loByte v).getLsbD 6) ((loByte v).getLsbD 5)
      ((loByte v).getLsbD 4) :=
  ⟨maskFlags_getLsbD _ rfl, maskFlags_getLsbD _ rfl, maskFlags_getLsbD _ rfl, maskFlags_getLsbD _ rfl⟩

/-! ### The statements -/

/-- Settles O14: a copy is one register write. -/
theorem loadRegisterFromRegister : Obligations.LoadRegisterFromRegister :=
  ⟨fun _ _ hy hz _ _ => encode_mkLoad hy hz, fun dst src s =>
    ⟨rfl, _, exec_mkLd dst src s, setReg8_reg8_same s dst _, setReg8_same s dst _,
      setReg8_sameMemory s dst _⟩⟩

/-- Settles O15: each load is `loadRegister` at its own address. -/
theorem loadRegisterFromMemory : Obligations.LoadRegisterFromMemory :=
  ⟨fun _ hy _ => encode_mkLoad_atHL hy, rfl, rfl, fun _ => rfl, rfl, fun _ => rfl,
    fetchReads_opLength 0xF0, fetchReads_opLength 0xFA, highPage_mapped, highPage_toNat, fun s =>
    ⟨fun dst => ⟨rfl, _, exec_mkLdFromHL dst s, loadedFrom_loadRegister s dst s.hl⟩,
      ⟨_, rfl, loadedFrom_loadRegister s .a s.bc⟩,
      ⟨_, rfl, loadedFrom_loadRegister s .a s.de⟩,
      fun n => ⟨_, rfl, loadedFrom_loadRegister s .a (highPage n)⟩,
      ⟨_, rfl, loadedFrom_loadRegister s .a (highPage s.c)⟩,
      fun a => ⟨_, rfl, loadedFrom_loadRegister s .a a⟩⟩⟩

/-- Settles O16: each store is `memWrite` at its own address; the row of `(HL)` is index 6 of the load family. -/
theorem storeOneByte : Obligations.StoreOneByte :=
  ⟨fun _ hz _ => encode_mkLoad (y := 6) (by decide) hz, fun _ => rfl, rfl, rfl, fun _ => rfl, rfl, fun _ => rfl,
    fetchReads_opLength 0x36, fetchReads_opLength 0xE0, fetchReads_opLength 0xEA,
    fun n => ⟨highPage_mapped n, highPage_toNat n⟩, fun s =>
    ⟨fun src => ⟨rfl, _, exec_mkLdToHL src s, storedTo_memWrite s s.hl (s.reg8 src)⟩,
      fun n => ⟨_, rfl, storedTo_memWrite s s.hl n⟩,
      ⟨_, rfl, storedTo_memWrite s s.bc s.a⟩,
      ⟨_, rfl, storedTo_memWrite s s.de s.a⟩,
      fun n => ⟨_, rfl, storedTo_memWrite s (highPage n) s.a⟩,
      ⟨_, rfl, storedTo_memWrite s (highPage s.c) s.a⟩,
      fun a => ⟨_, rfl, storedTo_memWrite s a s.a⟩⟩⟩

/-- Settles O17: encodings and fetches by the opcode map, each load as one write of a register or a pair. -/
theorem loadImmediate : Obligations.LoadImmediate :=
  ⟨fun _ n hy _ => encode_of_imm8 (decodeFirst_mkLoadImm hy) n,
    fun _ n hp => encode_of_imm16 (decodeFirst_mkLdPair hp) n, rfl,
    fun _ hy => fetchReads_of_decodeFirst (decodeFirst_mkLoadImm hy),
    fun _ hp => fetchReads_of_decodeFirst (decodeFirst_mkLdPair hp), fun s =>
    ⟨fun dst n => ⟨rfl, _, exec_mkLdImm dst n s, setReg8_reg8_same s dst n, setReg8_same s dst n,
        setReg8_sameMemory s dst n⟩,
      fun p n => ⟨_, exec_mkLdPair p n s, setPair_pair s p n, setPair_same s p n, setPair_sameMemory s p n⟩,
      ⟨_, rfl, setPair_pair s .sp s.hl, setPair_same s .sp s.hl, setPair_sameMemory s .sp s.hl⟩⟩⟩

/-- Settles O18: `HL` moves by 1 or by -1, which is 65535 modulo 65536. -/
theorem transfersThatStepHL : Obligations.TransfersThatStepHL :=
  ⟨rfl, rfl, rfl, rfl, fun s =>
    ⟨⟨_, rfl, storeAStepHL_effect s 1⟩, ⟨_, rfl, storeAStepHL_effect s (-1)⟩,
      ⟨_, rfl, loadAStepHL_effect s 1⟩, ⟨_, rfl, loadAStepHL_effect s (-1)⟩⟩⟩

/-- Settles O20: `PUSH` is `Push16` of the pair, whose value is that of its registers. -/
theorem pushPair : Obligations.PushPair :=
  ⟨fun _ hp => encode_of_whole (decodeFirst_mkPush hp), fun p s =>
    ⟨⟨_, exec_mkPush p s, pushStoresLowByteLower s (s.stackPair p)⟩,
      wordOf_toNat s.b s.c, wordOf_toNat s.d s.e, wordOf_toNat s.h s.l, af_toNat s⟩⟩

/-- Settles O21: `POP` is `Pop16` and a write of the pair; `F` takes the low byte through the mask. -/
theorem popPair : Obligations.PopPair :=
  ⟨rfl, rfl, rfl, rfl, fun s =>
    ⟨⟨_, rfl, popped_popPair s .bc⟩, ⟨_, rfl, popped_popPair s .de⟩, ⟨_, rfl, popped_popPair s .hl⟩,
      ⟨_, loByte s.pop16.1, rfl, popped_popPair s .af, maskFlags_toNat _, setAF_flagsAre _ _⟩⟩⟩

end Sys2Proof.Machine
end

section
/-! SUPPORT. 16-bit arithmetic (42_wide.md): the encodings of the family, the wide sums as numbers, what a write of
a pair and of the flags leaves, and the statements about them. -/

open Sys2Proof Sys2Proof.Machine Sys2Proof.Claims

namespace Sys2Proof.Machine

/-! ### Encodings (R131) -/

theorem decodeFirst_mkIncPair {p : Nat} (hp : p < 4) :
    decodeFirst (BitVec.ofNat 8 (0x03 + 16 * p)) = .whole (mkIncPair (tableRp p)) := by
  interval_cases p <;> rfl

theorem decodeFirst_mkDecPair {p : Nat} (hp : p < 4) :
    decodeFirst (BitVec.ofNat 8 (0x0B + 16 * p)) = .whole (mkDecPair (tableRp p)) := by
  interval_cases p <;> rfl

theorem decodeFirst_mkAddHL {p : Nat} (hp : p < 4) :
    decodeFirst (BitVec.ofNat 8 (0x09 + 16 * p)) = .whole (mkAddHL (tableRp p)) := by
  interval_cases p <;> rfl

/-! ### The sums as numbers (R400 to R403) -/

theorem incrementPair_pair_toNat (s : State) (p : Pair) :
    ((s.incrementPair p).pair p).toNat = ((s.pair p).toNat + 1) % 65536 := by
  rw [State.incrementPair, setPair_pair]
  exact BitVec.toNat_add (s.pair p) 1

theorem decrementPair_pair_toNat (s : State) (p : Pair) :
    ((s.decrementPair p).pair p).toNat = ((s.pair p).toNat + 65535) % 65536 := by
  rw [State.decrementPair, setPair_pair, Nat.add_comm]
  exact BitVec.toNat_sub (s.pair p) 1

theorem add16_res_toNat (a b : Word) (z : Bool) :
    (add16 a b z).res.toNat = (a.toNat + b.toNat) % 65536 :=
  BitVec.toNat_ofNat _ _

/-- The offset enters the sum with its sign. -/
theorem addSPe_res_toNat (sp : Word) (e : Byte) :
    ((addSPe sp e).res.toNat : Int) = ((sp.toNat : Int) + signed8 e) % 65536 := by
  have hext := sext16_toNat e
  simp only [addSPe, BitVec.toNat_add]
  omega

/-! ### A write of a pair and of the flags (R404 to R406) -/

/-- A wide result goes to a pair, and its flags to `F`. -/
def State.writeWide (s : State) (p : Pair) (r : WideOut) : State :=
  (s.setPair p r.res).setFlags r.z r.n r.h r.c

theorem addToHL_eq_writeWide (s : State) (p : Pair) :
    s.addToHL p = s.writeWide .hl (add16 s.hl (s.pair p) s.flagZ) := rfl

theorem addToSP_eq_writeWide (s : State) (e : Byte) :
    s.addToSP e = s.writeWide .sp (addSPe s.sp e) := rfl

theorem loadHLFromSP_eq_writeWide (s : State) (e : Byte) :
    s.loadHLFromSP e = s.writeWide .hl (addSPe s.sp e) := rfl

/-- A write of the flags leaves the pairs. -/
@[simp] theorem setFlags_pair (s : State) (z n h c : Bool) (p : Pair) :
    (s.setFlags z n h c).pair p = s.pair p := by
  cases p <;> rfl

theorem writeWide_pair (s : State) (p : Pair) (r : WideOut) : (s.writeWide p r).pair p = r.res :=
  (setFlags_pair _ _ _ _ _ p).trans (setPair_pair s p r.res)

theorem writeWide_flagsAre (s : State) (p : Pair) (r : WideOut) :
    FlagsAre (s.writeWide p r) r.z r.n r.h r.c :=
  setFlags_flagsAre _ _ _ _ _

theorem writeWide_same (s : State) (p : Pair) (r : WideOut) :
    SameExcept (pairItems p ++ flagItems) s (s.writeWide p r) :=
  (setPair_same s p r.res).trans (setFlags_same _ _ _ _ _)

/-- A result that passes `Z` through writes the other three flags. -/
theorem writeWide_same_of_flagZ {s : State} (p : Pair) {r : WideOut} (hz : r.z = s.flagZ) :
    SameExcept (pairItems p ++ [.flagN, .flagH, .flagC]) s (s.writeWide p r) := by
  obtain ⟨hflagZ, -, -, -⟩ := writeWide_flagsAre s p r
  refine (writeWide_same s p r).of_kept (kept := [.flagZ]) (List.forall_mem_singleton.2 (hflagZ.trans hz)) ?_
  cases p <;> decide

theorem writeWide_sameMemory (s : State) (p : Pair) (r : WideOut) : SameMemory s (s.writeWide p r) :=
  (setPair_sameMemory s p r.res).trans (setFlags_sameMemory _ _ _ _ _)

/-- The signed sum of `SP` and an offset, written to a pair (R401). -/
theorem writeWide_addSPe_pair_toNat (s : State) (p : Pair) (e : Byte) :
    (((s.writeWide p (addSPe s.sp e)).pair p).toNat : Int) = ((s.sp.toNat : Int) + signed8 e) % 65536 := by
  rw [writeWide_pair, addSPe_res_toNat]

/-! ### The statements -/

/-- Settles O29: one step of the pair modulo 65536, in the frame of a pair write. -/
theorem incrementAndDecrementPair : Obligations.IncrementAndDecrementPair :=
  ⟨fun _ hp => ⟨encode_of_whole (decodeFirst_mkIncPair hp), encode_of_whole (decodeFirst_mkDecPair hp)⟩,
    fun p s =>
    ⟨⟨s.incrementPair p, exec_mkIncPair p s, incrementPair_pair_toNat s p, setPair_same s p _,
        setPair_sameMemory s p _⟩,
      ⟨s.decrementPair p, exec_mkDecPair p s, decrementPair_pair_toNat s p, setPair_same s p _,
        setPair_sameMemory s p _⟩⟩⟩

/-- Settles O30: the sum of `add16`, written to `HL` with the old `Z`. -/
theorem addPairToHL : Obligations.AddPairToHL := by
  refine ⟨fun _ hp => encode_of_whole (decodeFirst_mkAddHL hp), fun p s => ?_⟩
  refine ⟨s.addToHL p, exec_mkAddHL p s, ?_⟩
  rw [addToHL_eq_writeWide]
  have hsum : (s.writeWide .hl (add16 s.hl (s.pair p) s.flagZ)).hl = (add16 s.hl (s.pair p) s.flagZ).res :=
    writeWide_pair s .hl _
  exact ⟨by rw [hsum, add16_res_toNat], writeWide_flagsAre s .hl _, writeWide_same_of_flagZ .hl rfl,
    writeWide_sameMemory s .hl _⟩

/-- Settles O31: the sum of `addSPe`, written to `SP` or to `HL`. -/
theorem addSignedToStackPointer : Obligations.AddSignedToStackPointer := by
  refine ⟨fun _ => rfl, fun _ => rfl, fetchReads_opLength 0xE8, fetchReads_opLength 0xF8, fun e s => ⟨?_, ?_⟩⟩
  · refine ⟨s.addToSP e, rfl, ?_⟩
    rw [addToSP_eq_writeWide]
    exact ⟨writeWide_addSPe_pair_toNat s .sp e, writeWide_flagsAre s .sp _, writeWide_same s .sp _,
      writeWide_sameMemory s .sp _⟩
  · refine ⟨s.loadHLFromSP e, rfl, ?_⟩
    rw [loadHLFromSP_eq_writeWide]
    exact ⟨writeWide_addSPe_pair_toNat s .hl e, writeWide_flagsAre s .hl _, writeWide_same s .hl _,
      writeWide_sameMemory s .hl _⟩

end Sys2Proof.Machine
end

section
/-! SUPPORT. Control transfer (43_control.md): the encodings of the family, what the jump after a push or a pop
leaves, calls and returns under a condition, and the statements about them. -/

open Sys2Proof Sys2Proof.Machine Sys2Proof.Claims

namespace Sys2Proof.Machine

/-! ### Encodings (R131, R134) -/

theorem decodeFirst_mkCall {k : Nat} (h : k < 4) :
    decodeFirst (BitVec.ofNat 8 (0xC4 + 8 * k)) = .imm16 (mkCall (tableCc k)) := by
  interval_cases k <;> rfl

theorem decodeFirst_mkRet {k : Nat} (h : k < 4) :
    decodeFirst (BitVec.ofNat 8 (0xC0 + 8 * k)) = .whole (mkRet (tableCc k)) := by
  interval_cases k <;> rfl

theorem decodeFirst_mkRst (y : Fin 8) :
    decodeFirst (BitVec.ofNat 8 (0xC7 + 8 * y.val)) = .whole (mkRst y) := by
  fin_cases y <;> rfl

/-! ### The jump and the bus -/

theorem jump_sameBus (s : State) (target : Word) : SameBus s (s.jump target) := ⟨rfl, rfl, rfl, rfl, rfl⟩

/-! ### Calls (R505, R506, R510) -/

/-- The target of `RST` (R510). -/
theorem restartTarget_toNat (y : Fin 8) : (BitVec.ofNat 16 (8 * y.val)).toNat = 8 * y.val := by
  have hy := y.isLt
  rw [BitVec.toNat_ofNat]
  omega

/-- A jump after `Push16` adds `PC` and its mark to what `Push16` wrote. -/
theorem pushed_push16_jump (s : State) (v target : Word) :
    Pushed v [.pc, .redirect] s ((s.push16 v).jump target) := by
  obtain ⟨hsp, hhi, hlo, haccesses, hframe, hmemory⟩ := pushStoresLowByteLower s v
  have hjump := jump_sameMemory (s.push16 v) target
  exact ⟨hsp, hhi.trans_sameMemory hjump, hlo.trans_sameMemory hjump,
    haccesses.trans_sameBus (jump_sameBus _ target), hframe.trans (jump_same _ target),
    hmemory.trans (hjump.except [])⟩

theorem callIf_of_true {s : State} {k : Cond} (h : s.cond k = true) (target : Word) :
    s.callIf k target = s.call target := if_pos h

theorem callIf_of_false {s : State} {k : Cond} (h : s.cond k = false) (target : Word) :
    s.callIf k target = s := if_neg (Bool.eq_false_iff.mp h)

/-! ### Returns (R507, R508) -/

/-- A jump after `Pop16` adds `PC` and its mark to what `Pop16` wrote. -/
theorem popped_returnTo (s : State) :
    Popped (loByte s.pop16.1) (hiByte s.pop16.1) [.pc, .redirect] s s.returnTo := by
  obtain ⟨hlo, hhi⟩ := pop16_readsAs s
  exact ⟨hlo, hhi, pop16_sp s, (pop16_accesses s).trans_sameBus (jump_sameBus _ _), returnTo_same s,
    (pop16_sameMemory s).trans (jump_sameMemory _ _)⟩

/-- The target of a return is the word of the two bytes popped. -/
theorem returnTo_pc_toNat (s : State) :
    s.returnTo.pc.toNat = (hiByte s.pop16.1).toNat * 256 + (loByte s.pop16.1).toNat := by
  rw [← wordOf_toNat, wordOf_hiByte_loByte]
  rfl

theorem returnIf_of_true {s : State} {k : Cond} (h : s.cond k = true) : s.returnIf k = s.returnTo := if_pos h

theorem returnIf_of_false {s : State} {k : Cond} (h : s.cond k = false) : s.returnIf k = s :=
  if_neg (Bool.eq_false_iff.mp h)

/-! ### The statements -/

/-- Settles O32: each form is `jump` to its own target, as a number. -/
theorem jumpAlways : Obligations.JumpAlways := by
  refine ⟨fun _ => rfl, rfl, fun _ => rfl, fetchReads_opLength 0xC3, fetchReads_opLength 0x18, fun s =>
    ⟨fun a => ⟨s.jump a, rfl, jumped_jump s a⟩, ⟨s.jump s.hl, rfl, ?_⟩,
      fun e => ⟨s.jump (s.relativeTarget e), rfl, ?_⟩⟩⟩
  · rw [← wordOf_toNat]
    exact jumped_jump s s.hl
  · rw [← relativeTarget_toNat]
    exact jumped_jump s (s.relativeTarget e)

/-- Settles O34: each form is `Push16` of its return address and a jump; without its condition a call is the
identity. -/
theorem callPushesReturnAddress : Obligations.CallPushesReturnAddress := by
  refine ⟨fun _ => rfl, fun _ a hk => encode_of_imm16 (decodeFirst_mkCall hk) a,
    fun y => encode_of_whole (decodeFirst_mkRst y), fetchReads_opLength 0xCD,
    fun _ hk => fetchReads_of_decodeFirst (decodeFirst_mkCall hk), fun s =>
    ⟨fun a => ⟨s.call a, rfl, pushed_push16_jump s (s.pc + 3) a, rfl, rfl⟩,
      fun k a => ⟨s.callIf k a, exec_mkCall k a s, fun h => ?_, fun h => callIf_of_false h a⟩,
      fun y => ⟨s.restart (BitVec.ofNat 16 (8 * y.val)), exec_mkRst y s,
        pushed_push16_jump s (s.pc + 1) _, restartTarget_toNat y, rfl⟩⟩⟩
  rw [callIf_of_true h]
  exact ⟨pushed_push16_jump s (s.pc + 3) a, rfl, rfl⟩

/-- Settles O35: a return is `Pop16` and a jump to the word popped; without its condition it is the identity. -/
theorem returnPopsTarget : Obligations.ReturnPopsTarget := by
  refine ⟨rfl, fun _ hk => encode_of_whole (decodeFirst_mkRet hk), fun s =>
    ⟨⟨s.returnTo, _, _, rfl, popped_returnTo s, returnTo_pc_toNat s, rfl⟩,
      fun k => ⟨s.returnIf k, exec_mkRet k s, fun h => ?_, returnIf_of_false⟩⟩⟩
  rw [returnIf_of_true h]
  exact ⟨_, _, popped_returnTo s, returnTo_pc_toNat s, rfl⟩

end Sys2Proof.Machine
end

section
/-! SUPPORT. Rotates, shifts and bits (44_rotate_shift_bit.md): the encodings of the extended page, the results of
rotates and bit masks bit by bit, the forms that write no flag, and the statements about them. -/

open Sys2Proof Sys2Proof.Machine Sys2Proof.Claims

namespace Sys2Proof.Machine

/-! ### Encodings of the extended page (R122, R135) -/

theorem fields_ofNat {n x y z : Nat} (hn : n = 64 * x + 8 * y + z) (hx : x < 4) (hy : y < 8) (hz : z < 8) :
    fieldX (BitVec.ofNat 8 n) = x ∧ fieldY (BitVec.ofNat 8 n) = y ∧ fieldZ (BitVec.ofNat 8 n) = z := by
  simp only [fieldX, fieldY, fieldZ, BitVec.toNat_ofNat]
  omega

theorem encode_of_decodeExtended {cbop : Byte} {i : Instr} (h : decodeExtended cbop = i) :
    encode i = [0xCB, cbop] := by
  rw [← h]
  exact encode_decodeExtended cbop

theorem decodeExtended_mkRot {y z : Nat} (hy : y < 8) (hz : z < 8) :
    decodeExtended (BitVec.ofNat 8 (8 * y + z)) = mkRot (tableRot y) (tableR8 z) := by
  obtain ⟨fx, fy, fz⟩ := fields_ofNat (n := 8 * y + z) (x := 0) (by omega) (by decide) hy hz
  simp only [decodeExtended, fx, fy, fz]

theorem decodeExtended_mkBit (b : Fin 8) {z : Nat} (hz : z < 8) :
    decodeExtended (BitVec.ofNat 8 (0x40 + 8 * b.val + z)) = mkBit b (tableR8 z) := by
  obtain ⟨fx, fy, fz⟩ := fields_ofNat (n := 0x40 + 8 * b.val + z) (x := 1) rfl (by decide) b.isLt hz
  simp only [decodeExtended, fx, fy, fz, Fin.ofNat_val_eq_self]

theorem decodeExtended_mkRes (b : Fin 8) {z : Nat} (hz : z < 8) :
    decodeExtended (BitVec.ofNat 8 (0x80 + 8 * b.val + z)) = mkRes b (tableR8 z) := by
  obtain ⟨fx, fy, fz⟩ := fields_ofNat (n := 0x80 + 8 * b.val + z) (x := 2) rfl (by decide) b.isLt hz
  simp only [decodeExtended, fx, fy, fz, Fin.ofNat_val_eq_self]

theorem decodeExtended_mkSet (b : Fin 8) {z : Nat} (hz : z < 8) :
    decodeExtended (BitVec.ofNat 8 (0xC0 + 8 * b.val + z)) = mkSet b (tableR8 z) := by
  obtain ⟨fx, fy, fz⟩ := fields_ofNat (n := 0xC0 + 8 * b.val + z) (x := 3) rfl (by decide) b.isLt hz
  simp only [decodeExtended, fx, fy, fz, Fin.ofNat_val_eq_self]

/-! ### The bits of a rotate (R600) -/

theorem bitByte_false : bitByte false = 0#8 := rfl

theorem bitByte_getLsbD (x : Bool) (k : Nat) : (bitByte x).getLsbD k = (decide (k = 0) && x) := by
  cases x <;> simp [bitByte]

/-- A shift to the left brings a given bit in at the bottom. -/
theorem shiftLeft_or_bitByte_getLsbD (v : Byte) (x : Bool) {k : Nat} (hk : k < 8) :
    ((v <<< 1) ||| bitByte x).getLsbD k = if k = 0 then x else v.getLsbD (k - 1) := by
  rw [BitVec.getLsbD_or, BitVec.getLsbD_shiftLeft, bitByte_getLsbD]
  by_cases h : k = 0 <;> simp [h, hk]

/-- A shift to the right brings a given bit in at the top. -/
theorem ushiftRight_or_bitByte_getLsbD (v : Byte) (x : Bool) {k : Nat} (hk : k < 8) :
    ((v >>> 1) ||| (bitByte x <<< 7)).getLsbD k = if k = 7 then x else v.getLsbD (k + 1) := by
  rw [BitVec.getLsbD_or, BitVec.getLsbD_ushiftRight, BitVec.getLsbD_shiftLeft, bitByte_getLsbD]
  interval_cases k <;> simp [Nat.add_comm]

/-- The sign bit in its place, as `SRA` keeps it, is the byte of that bit moved up by 7. -/
theorem and_topBit_eq (v : Byte) : v &&& (0x80 : Byte) = bitByte (v.getLsbD 7) <<< 7 := by
  have h : v &&& (0x80 : Byte) = if v.getLsbD 7 then BitVec.twoPow 8 7 else 0#8 := BitVec.and_twoPow v 7
  rw [h]
  cases v.getLsbD 7 <;> rfl

/-- Every rotate but `SWAP` is a shift by one that brings in the bit moved out, the carry, the sign or 0. -/
theorem rotate_fst_getLsbD (op : RotOp) (v : Byte) (cin : Bool) {k : Nat} (hk : k < 8) :
    (rotate op v cin).1.getLsbD k = rotatedBit op v cin k := by
  have hleft := fun x => shiftLeft_or_bitByte_getLsbD v x hk
  have hright := fun x => ushiftRight_or_bitByte_getLsbD v x hk
  cases op with
  | rlc =>
    refine (hleft (v.getLsbD 7)).trans ?_
    split <;> exact congrArg v.getLsbD (by omega)
  | rrc =>
    refine (hright (v.getLsbD 0)).trans ?_
    split <;> exact congrArg v.getLsbD (by omega)
  | rl => exact hleft cin
  | rr => exact hright cin
  | sla =>
    have h := hleft false
    rwa [bitByte_false, BitVec.or_zero] at h
  | sra =>
    have h := hright (v.getLsbD 7)
    rwa [← and_topBit_eq] at h
  | swap =>
    simp only [rotate, rotatedBit, BitVec.getLsbD_or, BitVec.getLsbD_shiftLeft, BitVec.getLsbD_ushiftRight]
    interval_cases k <;> simp
  | srl =>
    have h := hright false
    rwa [bitByte_false, BitVec.zero_shiftLeft, BitVec.or_zero] at h

theorem rotate_snd (op : RotOp) (v : Byte) (cin : Bool) : (rotate op v cin).2 = rotatedOut op v := by
  cases op <;> rfl

/-! ### The bits of a mask (R628, R630) -/

theorem bitMask_getLsbD (b : Fin 8) (k : Nat) : (bitMask b).getLsbD k = decide (k = b.val) := by
  have h : (bitMask b).getLsbD k = (BitVec.twoPow 8 b.val).getLsbD k := rfl
  rw [h, BitVec.getLsbD_twoPow]
  simp [b.isLt, eq_comm]

/-! ### The flags and the forms of a rotate (R601 to R605) -/

/-- The result of a rotate with the flags of R605. -/
def rotate8 (op : RotOp) (v : Byte) (cin : Bool) : AluOut :=
  let r := rotate op v cin
  { res := r.1, z := r.1 == 0, n := false, h := false, c := r.2 }

theorem rotateOperand_eq_modifyOperand (s : State) (op : RotOp) (x : Operand8) :
    s.rotateOperand op x = s.modifyOperand (rotate8 op) x := rfl

/-- Both forms of every extended rotate, shift and swap. -/
theorem rotatesBy (op : RotOp) : RotatesBy op := by
  refine modifyForms_of_modifyOperand (f := rotate8 op) (kept := [])
    (fun s x => by rw [exec_mkRot, rotateOperand_eq_modifyOperand]) (fun s t v hf => ?_)
    (fun _ _ _ _ => List.forall_mem_nil _) (List.Subset.refl _)
  obtain ⟨hz, hn, hh, hc⟩ := hf
  exact ⟨fun k hk => rotate_fst_getLsbD op v s.flagC hk, hz.trans (beq_zero_eq_decide _), hn, hh,
    hc.trans (rotate_snd op v s.flagC)⟩

theorem rotateA_flagsAre (s : State) (op : RotOp) :
    FlagsAre (s.rotateA op) false false false (rotatedOut op s.a) := by
  rw [← rotate_snd op s.a s.flagC]
  exact setFlags_flagsAre _ _ _ _ _

theorem rotateA_same (s : State) (op : RotOp) : SameExcept (.reg .a :: flagItems) s (s.rotateA op) :=
  (setA_same s _).trans (setFlags_same _ _ _ _ _)

/-- The accumulator rotates are one operation (R601 to R604). -/
theorem exec_rotateA {i : Instr} {op : RotOp}
    (h : (i, op) ∈ [(Instr.rlca, RotOp.rlc), (.rrca, .rrc), (.rla, .rl), (.rra, .rr)]) (s : State) :
    exec i s = .next (s.rotateA op) := by
  simp only [List.mem_cons, Prod.mk.injEq, List.not_mem_nil, or_false] at h
  obtain ⟨rfl, rfl⟩ | ⟨rfl, rfl⟩ | ⟨rfl, rfl⟩ | ⟨rfl, rfl⟩ := h <;> rfl

/-! ### `BIT` (R626, R627) -/

/-- A write of the flags that passes `C` through writes the other three. -/
theorem setFlags_flagC_same (s : State) (z n h : Bool) :
    SameExcept [.flagZ, .flagN, .flagH] s (s.setFlags z n h s.flagC) :=
  (setFlags_same s z n h _).of_kept (kept := [.flagC])
    (List.forall_mem_singleton.2 (setFlags_flagC s z n h _)) (by decide)

theorem testBit_atHL (s : State) (b : Fin 8) :
    s.testBit b .atHL =
      (s.memRead s.hl).2.setFlags (!(s.memRead s.hl).1.getLsbD b.val) false true (s.memRead s.hl).2.flagC := rfl

theorem testBit_atHL_flagsAre (s : State) (b : Fin 8) :
    FlagsAre (s.testBit b .atHL) (!(s.memRead s.hl).1.getLsbD b.val) false true s.flagC := by
  rw [testBit_atHL, memRead_flagC]
  exact setFlags_flagsAre _ _ _ _ _

theorem testBit_atHL_same (s : State) (b : Fin 8) :
    SameExcept ([.flagZ, .flagN, .flagH] ++ accessItems) s (s.testBit b .atHL) :=
  ((memRead_same s s.hl).trans (setFlags_flagC_same _ _ _ _)).mono List.perm_append_comm.subset

/-! ### Read-modify-write without flags (R84) -/

/-- A read of an operand and its replacement by a computed value. -/
def State.replaceOperand (s : State) (g : Byte → Byte) (x : Operand8) : State :=
  let v := s.readOperand x
  v.2.writeOperand x (g v.1)

theorem resetBit_eq_replaceOperand (s : State) (b : Fin 8) (x : Operand8) :
    s.resetBit b x = s.replaceOperand (· &&& ~~~(bitMask b)) x := rfl

theorem assertBit_eq_replaceOperand (s : State) (b : Fin 8) (x : Operand8) :
    s.assertBit b x = s.replaceOperand (· ||| bitMask b) x := rfl

/-- The memory form is a read, then a write at the same address. -/
theorem replaceOperand_atHL (s : State) (g : Byte → Byte) :
    s.replaceOperand g .atHL = (s.memRead s.hl).2.memWrite s.hl (g (s.memRead s.hl).1) := by
  simp only [State.replaceOperand, State.readOperand, State.writeOperand, memRead_hl]

/-- A read-modify-write instruction that writes no flag in its two forms, from what its computation returns. -/
theorem modifyForms_of_replaceOperand {i : Operand8 → Instr} {g : Byte → Byte} {result : Byte → Byte → Prop}
    (hexec : ∀ s x, exec (i x) s = .next (s.replaceOperand g x)) (hresult : ∀ v, result v (g v)) :
    ModifyForms i [] fun _ _ v w => result v w := by
  intro s
  have hreg : ∀ r, (s.replaceOperand g (.reg r)).reg8 r = g (s.reg8 r) := fun r => setReg8_reg8_same s r _
  refine ⟨fun r => ⟨_, hexec s (.reg r), ?_, setReg8_same s r _, setReg8_sameMemory s r _⟩,
    _, (s.memRead s.hl).1, g (s.memRead s.hl).1, hexec s .atHL, memRead_readsAs s s.hl, hresult _, ?_⟩
  · rw [hreg]
    exact hresult _
  · rw [replaceOperand_atHL]
    obtain ⟨hstored, haccesses, hframe, hmemory⟩ :=
      storedTo_memWrite (s.memRead s.hl).2 s.hl (g (s.memRead s.hl).1)
    exact ⟨fun hw => hstored (memRead_mem_wf hw s.hl), (memRead_accesses s s.hl).trans haccesses,
      ((memRead_same s s.hl).trans hframe).mono (by decide),
      ((memRead_sameMemory s s.hl).except []).trans hmemory⟩

/-! ### The statements -/

/-- Settles O37: each accumulator rotate is `rotateA`, bit by bit. -/
theorem rotateAccumulator : Obligations.RotateAccumulator :=
  ⟨rfl, rfl, rfl, rfl, fun s ⟨_, op⟩ hio =>
    ⟨s.rotateA op, exec_rotateA hio s, fun _ hk => rotate_fst_getLsbD op s.a s.flagC hk,
      rotateA_flagsAre s op, rotateA_same s op, .of_eq rfl rfl rfl⟩⟩

/-- Settles O38: the read-modify-write forms of the four rotates, the first four rows of the table `rot`. -/
theorem rotateOperand : Obligations.RotateOperand :=
  ⟨fun _ _ hy hz => encode_of_decodeExtended (decodeExtended_mkRot (hy.trans (by decide)) hz),
    fetchReads_opLength 0xCB, rotatesBy .rlc, rotatesBy .rrc, rotatesBy .rl, rotatesBy .rr⟩

/-- Settles O39: the read-modify-write forms of the shifts and the swap, the last four rows of the table. -/
theorem shiftAndSwapOperand : Obligations.ShiftAndSwapOperand :=
  ⟨fun _ _ _ hy hz => encode_of_decodeExtended (decodeExtended_mkRot hy hz),
    fetchReads_opLength 0xCB, rotatesBy .sla, rotatesBy .sra, rotatesBy .swap, rotatesBy .srl⟩

/-- Settles O40: a write of `Z`, `N` and `H`, after one read in the memory form. -/
theorem testOneBit : Obligations.TestOneBit :=
  ⟨fun b _ hz => encode_of_decodeExtended (decodeExtended_mkBit b hz), fetchReads_opLength 0xCB, fun b s =>
    ⟨fun r => ⟨s.testBit b (.reg r), exec_mkBit b (.reg r) s, setFlags_flagsAre s _ _ _ _,
        setFlags_flagC_same s _ _ _, setFlags_sameMemory s _ _ _ _⟩,
      s.testBit b .atHL, (s.memRead s.hl).1, exec_mkBit b .atHL s, memRead_readsAs s s.hl,
      testBit_atHL_flagsAre s b, (memRead_accesses s s.hl).trans_sameBus (setFlags_sameBus _ _ _ _ _),
      testBit_atHL_same s b, (memRead_sameMemory s s.hl).trans (setFlags_sameMemory _ _ _ _ _)⟩⟩

/-- Settles O41: the flagless read-modify-write forms of the two operations on the mask of the bit. -/
theorem resetAndSetOneBit : Obligations.ResetAndSetOneBit := by
  refine ⟨fun b _ hz => ⟨encode_of_decodeExtended (decodeExtended_mkRes b hz),
      encode_of_decodeExtended (decodeExtended_mkSet b hz)⟩, fetchReads_opLength 0xCB, fun b =>
    ⟨modifyForms_of_replaceOperand (g := (· &&& ~~~(bitMask b)))
        (fun s x => by rw [exec_mkRes, resetBit_eq_replaceOperand]) fun v k hk => ?_,
      modifyForms_of_replaceOperand (g := (· ||| bitMask b))
        (fun s x => by rw [exec_mkSet, assertBit_eq_replaceOperand]) fun v k _ => ?_⟩⟩
  · rw [BitVec.getLsbD_and, BitVec.getLsbD_not, bitMask_getLsbD]
    simp [hk]
  · rw [BitVec.getLsbD_or, bitMask_getLsbD]

end Sys2Proof.Machine
end

section
/-! SUPPORT. System instructions (45_system.md): the meaning and the length of `NOP`, and the statement about it. -/

open Sys2Proof Sys2Proof.Machine Sys2Proof.Claims

namespace Sys2Proof.Machine

/-- The pseudocode of `NOP` is empty (R700). -/
theorem exec_nop (s : State) : exec .nop s = .next s := rfl

theorem encode_nop : encode .nop = [0x00] := encode_of_whole (op := 0x00) rfl

theorem instrLength_nop : instrLength .nop = 1 := by
  rw [instrLength_eq, encode_nop, List.length_singleton]

/-- Settles O42: the meaning is the identity; the advance without a redirect adds the length, which is 1. -/
theorem nopChangesNothing : Obligations.NopChangesNothing := by
  refine ⟨encode_nop, fun s => ⟨exec_nop s, fun hredirect => ?_⟩⟩
  rw [instrLength_nop]
  exact advance_of_not_redirect hredirect 1

end Sys2Proof.Machine
end

section
/-! SUPPORT. Decoding and encoding agree (30_encoding.md sections 3 to 5): what the decoder does with a list of enough
bytes and with one of too few, and the statements about both directions, the lengths and sample words. -/

open Sys2Proof Sys2Proof.Machine Sys2Proof.Claims

namespace Sys2Proof.Machine

/-! ### The decoder on enough bytes and on too few (R130, R138) -/

/-- Given the bytes its first byte asks for, the decoder answers the instruction they encode and leaves the rest. -/
theorem decode_of_length_le {op : Byte} {tail : List Byte} (h : opLength op ≤ tail.length + 1) :
    ∃ i, decode (op :: tail) = .ok (i, tail.drop (opLength op - 1)) ∧
      encode i = op :: tail.take (opLength op - 1) := by
  rw [opLength_eq] at h ⊢
  cases hp : decodeFirst op with
  | whole i => exact ⟨i, decode_whole hp tail, encode_of_whole hp⟩
  | imm8 f =>
    cases tail with
    | nil => simp [hp, Pattern.length] at h
    | cons n rest => exact ⟨f n, decode_imm8 hp n rest, encode_of_imm8 hp n⟩
  | imm16 f =>
    match tail with
    | [] | [_] => simp [hp, Pattern.length] at h
    | lo :: hi :: rest =>
      have hd := decode_imm16 hp (wordOf hi lo) rest
      have he := encode_of_imm16 hp (wordOf hi lo)
      rw [loByte_wordOf, hiByte_wordOf] at hd he
      exact ⟨f (wordOf hi lo), hd, he⟩
  | extended =>
    have hop : op = 0xCB := by
      have he := decodeFirst_encodesAs op
      rwa [hp] at he
    cases tail with
    | nil => simp [hp, Pattern.length] at h
    | cons cbop rest =>
      subst hop
      exact ⟨decodeExtended cbop, rfl, encode_decodeExtended cbop⟩

/-- Given fewer bytes, the decoder refuses by name. -/
theorem decode_of_length_lt {op : Byte} {tail : List Byte} (h : tail.length + 1 < opLength op) :
    decode (op :: tail) = .error (.truncated op) := by
  rw [opLength_eq] at h
  cases hp : decodeFirst op <;> simp only [hp, Pattern.length] at h <;>
    match tail with
    | [] => simp [decode, hp] at h ⊢
    | [_] => simp [decode, hp] at h ⊢
    | _ :: _ :: _ => simp only [List.length_cons] at h; omega

/-! ### The statements -/

/-- Settles O1: the four formats of an encoding, each decoded by its own pattern. -/
theorem decodeOfEncodeIsIdentity : Obligations.DecodeOfEncodeIsIdentity := by
  intro i rest
  obtain ⟨op, he, hd⟩ | ⟨op, f, n, he, hd, rfl⟩ | ⟨op, f, n, he, hd, rfl⟩ | ⟨cbop, he, hd⟩ :=
    encode_cases i
  · rw [he, decode_whole hd]
  · rw [he, decode_imm8 hd]
  · rw [he, decode_imm16 hd]
  · rw [he, decode_extended hd]

/-- Settles O2: a list that decodes is long enough for its first byte, so that its instruction encodes to the
bytes used and the rest is the others. -/
theorem encodeOfDecodeIsIdentity : Obligations.EncodeOfDecodeIsIdentity := by
  intro bytes i rest h
  cases bytes with
  | nil => cases h
  | cons op tail =>
    have hlen : opLength op ≤ tail.length + 1 := by
      by_contra hlt
      rw [decode_of_length_lt (Nat.lt_of_not_le hlt)] at h
      cases h
    obtain ⟨j, hd, he⟩ := decode_of_length_le hlen
    cases hd.symm.trans h
    rw [he, List.cons_append, List.take_append_drop]

/-- Settles O3: the length of a first byte is what the model computes, and the decoder takes that many bytes. -/
theorem firstByteFixesLength : Obligations.FirstByteFixesLength := by
  intro op tail
  refine ⟨rfl, fun h => ?_, decode_of_length_lt⟩
  obtain ⟨i, hd, he⟩ := decode_of_length_le h
  have hop : opcodeOf i = op := by rw [opcodeOf, he, List.headD_cons]
  exact ⟨i, hd, hop, congrArg opLength hop⟩

/-- Settles O4: the decoder run on each word. -/
theorem sampleWordsDecode : Obligations.SampleWordsDecode :=
  ⟨rfl, rfl, rfl, rfl, rfl, rfl, rfl, rfl, rfl, rfl, rfl, rfl, rfl⟩

end Sys2Proof.Machine
end

section
/-! SUPPORT. The invariant of the block (10_state.md): its parts at construction, under a step and under each command
of the host, what a step does to memory, and the statements about them. -/

open Sys2Proof Sys2Proof.Machine Sys2Proof.Claims

namespace Sys2Proof.Machine

/-! ### The unused bits of `AF` (R32, R34) -/

theorem and_lowNibble_toNat (v : Word) : (v &&& 0x000F).toNat = v.toNat % 16 :=
  Nat.and_two_pow_sub_one_eq_mod v.toNat 4

/-- The pair `AF` is read through the mask. -/
theorem af_low (s : State) : s.af &&& 0x000F = 0 := by
  apply BitVec.eq_of_toNat_eq
  rw [and_lowNibble_toNat, af_toNat]
  simp only [BitVec.ofNat_eq_ofNat, BitVec.toNat_ofNat]
  omega

/-! ### The mark `redirect` between steps (R38, R141) -/

/-- The advance leaves the mark 0, whatever the instruction did. -/
theorem advance_redirect (s : State) (len : Nat) : (s.advance len).redirect = false := by
  cases h : s.redirect with
  | true => rw [advance_of_redirect h]
  | false => rw [advance_of_not_redirect h]; exact h

theorem finish_redirect (s : State) (i : Instr) : (s.finish i).redirect = false := advance_redirect s.count _

theorem idle_redirect (s : State) : s.idle.redirect = s.redirect := by
  unfold State.idle
  split <;> rfl

theorem stepped_redirect {s : State} (h : s.redirect = false) : s.stepped.redirect = false := by
  unfold State.stepped
  split
  · rw [idle_redirect, capture_redirect, h]
  · exact finish_redirect _ _

/-! ### The cells of ROM (R45, R900) -/

/-- Every address below 0x8000 is a cell of ROM. -/
theorem arrayCell_of_lt_romSize {k : Nat} (h : k < romSize) : arrayCell k = true := by
  have hk : (BitVec.ofNat 16 k).toNat = k := by
    rw [BitVec.toNat_ofNat]
    exact Nat.mod_eq_of_lt (h.trans (by decide))
  have hrom : region (BitVec.ofNat 16 k) = .rom := region_eq_of_claims (hk.trans_lt h)
  have hcell := arrayCell_plain (BitVec.ofNat 16 k) (by rw [hrom]; rfl)
  rwa [hk] at hcell

/-- A construction that succeeds gives the reset state with the image in ROM. -/
theorem eq_of_construct {image : List Byte} {s : State} (h : construct image = some s) :
    s = { State.reset with mem := imageCells 0 (image.take romSize) } := by
  unfold construct at h
  split at h <;> cases h
  rfl

theorem imageCells_arrayCell {image : List Byte} :
    ∀ cell ∈ imageCells 0 (image.take romSize), arrayCell cell.1 = true := by
  intro cell hc
  obtain ⟨-, hlt, -⟩ := imageCells_bounds hc
  have := List.length_take_le romSize image
  exact arrayCell_of_lt_romSize (by omega)

/-! ### The invariant at reset, under a step and under a command -/

theorem reset_inv : State.reset.Inv := by decide

theorem stepped_inv {s : State} (h : s.Inv) : s.stepped.Inv := by
  obtain ⟨hlow, hredirect, hwf, hcells, -⟩ := h
  obtain ⟨evs, htraced⟩ := step_traces (step_eq_stepped s)
  refine ⟨stepped_low hlow, stepped_redirect hredirect, htraced.wf hwf, htraced.cells hcells, ?_⟩
  rw [stepped_snap]
  exact af_low s

/-- Every command keeps the invariant. -/
theorem effect_inv {s : State} (h : s.Inv) (cmd : Command) : (cmd.effect s).Inv := by
  have hinv := h
  obtain ⟨hlow, hredirect, hwf, hcells, hsnap⟩ := hinv
  refine ⟨effect_low hlow cmd, ?_⟩
  cases cmd with
  | step => exact (stepped_inv h).2
  | reset p =>
    have hkept : ∀ cell ∈ s.mem.keepRom, arrayCell cell.1 = true := fun cell hc =>
      hcells cell (List.mem_filter.1 hc).1
    cases p <;> exact ⟨rfl, Memory.keepRom_wf hwf, hkept, hsnap⟩
  | peekByte a =>
    exact ⟨(load_redirect s a).trans hredirect, load_mem_wf hwf a, load_cells hcells a,
      by rwa [Command.effect, State.peekByte, load_snap]⟩
  | pokeByte a v =>
    exact ⟨(store_redirect s a v).trans hredirect, store_mem_wf hwf a v, store_cells hcells a v,
      by rwa [Command.effect, State.pokeByte, store_snap]⟩
  | rewind | clearInvalid | clearUnimpl | byteRegister _ | wordRegister _ | bit _ | instructionCount | history =>
    exact ⟨hredirect, hwf, hcells, hsnap⟩

/-! ### The statements -/

/-- Settles O51: the parts of the invariant under the step and under the effect of each command. -/
theorem stepKeepsTheInvariant : Obligations.StepKeepsTheInvariant := by
  refine ⟨fun s t hs h => ?_, fun cmd s r hs h => ?_⟩
  · rw [step_eq_stepped] at h
    cases h
    exact stepped_inv hs
  · rw [eq_effect_of_command h]
    exact effect_inv hs cmd

/-- Settles O50: the reset state has an empty memory; a construction lists cells of ROM alone, in order. -/
theorem resetMeetsTheInvariant : Obligations.ResetMeetsTheInvariant := by
  refine ⟨reset_inv, fun image s h => ?_⟩
  obtain ⟨hlow, hredirect, -, -, hsnap⟩ := reset_inv
  rw [eq_of_construct h]
  exact ⟨hlow, hredirect, imageCells_wf 0 _, imageCells_arrayCell, hsnap⟩

/-- Settles O53: the accesses a step makes, newest first, are what it adds to the history, and a byte changes by a
write among them alone. -/
theorem memoryChangesAreRecordedWrites : Obligations.MemoryChangesAreRecordedWrites := by
  intro s t hw h
  obtain ⟨evs, htraced⟩ := step_traces h
  obtain ⟨hhistory, -⟩ := htraced.acc
  exact ⟨evs.reverse, hhistory, fun a v ht hs => List.mem_reverse.2 (htraced.mem hw a v ht hs)⟩

end Sys2Proof.Machine
end

section
/-! SUPPORT. Accesses besides the step (20_memory.md, 60_exceptions.md section 5): the write by region, the scanline
register, an access with its event and one without, 16-bit accesses, a pop after a push, and the statements about
them. -/

open Sys2Proof Sys2Proof.Machine Sys2Proof.Claims

namespace Sys2Proof.Machine

/-! ### The write by region (R84) -/

theorem memWrite_of_ie (s : State) {a : Word} (h : region a = .ie) (v : Byte) :
    s.memWrite a v = { s.record (.write a v) with ie := v } := by
  simp only [State.memWrite, State.store, h]

theorem memWrite_of_iflag (s : State) {a : Word} (h : region a = .iflag) (v : Byte) :
    s.memWrite a v = { s.record (.write a v) with iflag := v } := by
  simp only [State.memWrite, State.store, h]

theorem memWrite_of_ly (s : State) {a : Word} (h : region a = .ly) (v : Byte) :
    s.memWrite a v =
      { s.record (.write a v) with mem := (s.mem.set lyCell lyValue).set lyCell v } := by
  simp only [State.memWrite, State.store, h, record_mem]

theorem memWrite_of_unmapped (s : State) {a : Word} (h : region a = .unmapped) (v : Byte) :
    s.memWrite a v = (s.record (.write a v)).signalInvalid := by
  simp only [State.memWrite, State.store, h]

theorem memWrite_of_plain (s : State) {a : Word} (h : plainRegion (region a) = true) (v : Byte) :
    s.memWrite a v = { s.record (.write a v) with mem := s.mem.set a.toNat v } := by
  simp only [State.memWrite, State.store, record_mem]
  cases hr : region a <;> simp [hr, plainRegion] at h ⊢

/-! ### The scanline register (R79) -/

theorem byteAt_scanline (s : State) : s.byteAt 0xFF44 = some lyValue := rfl

theorem memRead_scanline (s : State) : (s.memRead 0xFF44).1 = lyValue := memRead_of_byteAt (byteAt_scanline s)

/-- No byte that can be read changes by a write to an address that does not keep it. -/
theorem memWrite_sameMemory_of_not_retains (s : State) {a : Word} (h : retains a = false) (v : Byte) :
    SameMemory s (s.memWrite a v) := by
  intro b
  by_cases hb : b = a
  · rw [hb, memWrite_byteAt_not_retains h]
  · exact memWrite_byteAt_other s hb v

/-! ### An access and its event (R85, R100) -/

/-- The event of a read is recorded beside it. -/
theorem memRead_eq_load (s : State) (a : Word) : s.memRead a = ((s.load a).1, (s.load a).2.record (.read a)) := by
  unfold State.memRead State.load
  cases region a <;> rfl

/-- The event of a write is recorded beside it. -/
theorem memWrite_eq_store (s : State) (a : Word) (v : Byte) :
    s.memWrite a v = (s.store a v).record (.write a v) := by
  unfold State.memWrite State.store
  cases region a <;> rfl

/-! ### 16-bit accesses (R86, R87) -/

theorem word_ne_add_one (a : Word) : a ≠ a + 1 := by bv_omega

/-- A 16-bit read is of the byte at the address, low, and of the byte after it, high. -/
theorem memRead16_readsAs (s : State) (a : Word) :
    ReadsAs s a (loByte (s.memRead16 a).1) ∧ ReadsAs s (a + 1) (hiByte (s.memRead16 a).1) := by
  simp only [State.memRead16, hiByte_wordOf, loByte_wordOf]
  refine ⟨memRead_readsAs s a, fun x hx => memRead_readsAs (s.memRead a).2 (a + 1) x ?_⟩
  rwa [memRead_byteAt]

theorem memWrite16_accesses (s : State) (a v : Word) :
    Accesses [.write a (loByte v), .write (a + 1) (hiByte v)] s (s.memWrite16 a v) :=
  (memWrite_accesses s a (loByte v)).trans (memWrite_accesses _ (a + 1) (hiByte v))

/-- The second byte goes to another address than the first. -/
theorem memWrite16_stored (s : State) (a v : Word) :
    Stored s (s.memWrite16 a v) a (loByte v) ∧ Stored s (s.memWrite16 a v) (a + 1) (hiByte v) := by
  refine ⟨fun hw hr => ?_, fun hw hr => ?_⟩
  · exact (memWrite_byteAt_other _ (word_ne_add_one a) _).trans (memWrite_byteAt_same s a _ hw hr)
  · exact memWrite_byteAt_same _ (a + 1) _ (memWrite_mem_wf hw a _) hr

theorem memWrite16_sameMemory (s : State) (a v : Word) :
    SameMemoryExcept [a, a + 1] s (s.memWrite16 a v) :=
  (memWrite_sameMemory s a _).trans (memWrite_sameMemory _ (a + 1) _)

theorem loByte_eq_ofNat_mod (v : Word) : loByte v = BitVec.ofNat 8 (v.toNat % 256) := by
  apply BitVec.eq_of_toNat_eq
  rw [loByte_toNat, BitVec.toNat_ofNat, Nat.mod_mod]

/-! ### Push and pop (R88, R89) -/

/-- The bytes pushed are the bytes popped, each in its place. -/
theorem pop16_push16 {s : State} (hw : s.mem.wf) (hhi : retains (s.sp - 1) = true)
    (hlo : retains (s.sp - 2) = true) (v : Word) : (s.push16 v).pop16.1 = v := by
  obtain ⟨hstoredHi, hstoredLo⟩ := push16_stored s v
  obtain ⟨hreadLo, hreadHi⟩ := pop16_readsAs (s.push16 v)
  have hnext : s.sp - 2 + 1 = s.sp - 1 := by bv_omega
  rw [push16_sp] at hreadLo hreadHi
  rw [hnext] at hreadHi
  rw [← wordOf_hiByte_loByte (s.push16 v).pop16.1, hreadLo _ (hstoredLo hw hlo), hreadHi _ (hstoredHi hw hhi),
    wordOf_hiByte_loByte]

theorem popped_pop16 (s : State) : Popped (loByte s.pop16.1) (hiByte s.pop16.1) [] s s.pop16.2 := by
  obtain ⟨hlo, hhi⟩ := pop16_readsAs s
  exact ⟨hlo, hhi, pop16_sp s, pop16_accesses s, pop16_same s, pop16_sameMemory s⟩

/-- A word is its high byte times 256 and its low byte. -/
theorem toNat_eq_bytes (v : Word) : v.toNat = (hiByte v).toNat * 256 + (loByte v).toNat := by
  rw [← wordOf_toNat, wordOf_hiByte_loByte]

/-! ### The statements -/

/-- Settles O13: the pop reads where the push stored; alone it is two reads and a move of `SP`. -/
theorem popUndoesPush : Obligations.PopUndoesPush := by
  refine fun s v => ⟨?_, fun hw hhi hlo => pop16_push16 hw hhi hlo v, _, _, popped_pop16 s, toNat_eq_bytes _⟩
  rw [pop16_sp, push16_sp, BitVec.sub_add_cancel]

/-- Settles O19: the 16-bit read and write as two accesses each, low byte first. -/
theorem wideAccessesAreLittleEndian : Obligations.WideAccessesAreLittleEndian := by
  refine ⟨fun _ => rfl, fetchReads_opLength 0x08, fun a s => ⟨?_, memRead16_accesses s a, ?_⟩⟩
  · obtain ⟨hlo, hhi⟩ := memRead16_readsAs s a
    exact ⟨_, _, hlo, hhi, toNat_eq_bytes _⟩
  · obtain ⟨hlo, hhi⟩ := memWrite16_stored s a s.sp
    rw [loByte_eq_ofNat_mod] at hlo
    exact ⟨s.memWrite16 a s.sp, rfl, hlo, hhi, memWrite16_accesses s a s.sp, run_same (.storeSP a) s,
      memWrite16_sameMemory s a s.sp⟩

/-- Settles O9: the write by region. -/
theorem writeByRegion : Obligations.WriteByRegion := by
  intro s a v
  cases h : region a with
  | ie => exact memWrite_of_ie s h v
  | iflag => exact memWrite_of_iflag s h v
  | ly => exact memWrite_of_ly s h v
  | unmapped => exact memWrite_of_unmapped s h v
  | rom | wram0 | wram1 | hram | vram | io => exact memWrite_of_plain s (by rw [h]; rfl) v

/-- Settles O11: 0xFF44 reads as a constant, and is a mapped address that does not keep what is stored. -/
theorem scanlineRegisterReadsConstant : Obligations.ScanlineRegisterReadsConstant := by
  refine fun s a v => ⟨memRead_scanline s, memRead_scanline _,
    memWrite_sameMemory_of_not_retains s (by decide) v, ?_⟩
  have hmapped : unmapped 0xFF44 = false := by decide
  rw [memWrite_invalid, hmapped, Bool.or_false]

/-- Settles O60: the host's accesses are those of the bus without the event. -/
theorem hostAccessesLeaveNoEvent : Obligations.HostAccessesLeaveNoEvent := by
  intro s a v
  refine ⟨by rw [memRead_eq_load, State.peekByte], load_history s a, load_byteAt s a, store_history s a v,
    fun b => ?_, load_invalid s a, store_invalid s a v⟩
  rw [memWrite_eq_store, record_byteAt, State.pokeByte]

end Sys2Proof.Machine
end

section
/-! SUPPORT. `DAA` after an addition or a subtraction (40_alu.md section 4): two decimal digits in one byte as a
number, the sum and the difference of two such bytes, the tests of `DAA` on them, and the statement. -/

open Sys2Proof Sys2Proof.Machine Sys2Proof.Claims

namespace Sys2Proof.Machine

/-! ### Bytes of two decimal digits (93_implementation_defined.md G4) -/

theorem bcd_of_lt {n : Nat} (hn : n < 100) : bcd n = n / 10 * 16 + n % 10 := by
  unfold bcd
  omega

/-- The binary sum becomes the decimal one by 6 for each digit that overflows. -/
theorem bcd_add {x y : Nat} (hx : x < 100) (hy : y < 100) :
    bcd ((x + y) % 100) =
      (bcd x + bcd y + (6 * (decide (10 ≤ x % 10 + y % 10)).toNat + 96 * (decide (100 ≤ x + y)).toNat)) % 256 := by
  rw [bcd_of_lt hx, bcd_of_lt hy, bcd_of_lt (Nat.mod_lt _ (by decide))]
  by_cases hl : 10 ≤ x % 10 + y % 10 <;> by_cases hh : 100 ≤ x + y <;>
    simp only [hl, hh, decide_true, decide_false, Bool.toNat_true, Bool.toNat_false] <;> omega

/-- The binary difference becomes the decimal one by 6 for each digit that borrows. -/
theorem bcd_sub {x y : Nat} (hx : x < 100) (hy : y < 100) :
    bcd ((x + 100 - y) % 100) =
      (bcd x + 512 - bcd y - (6 * (decide (x % 10 < y % 10)).toNat + 96 * (decide (x < y)).toNat)) % 256 := by
  rw [bcd_of_lt hx, bcd_of_lt hy, bcd_of_lt (Nat.mod_lt _ (by decide))]
  by_cases hl : x % 10 < y % 10 <;> by_cases hh : x < y <;>
    simp only [hl, hh, decide_true, decide_false, Bool.toNat_true, Bool.toNat_false] <;> omega

/-! ### The tests of `DAA` (R238) -/

/-- A correction adds or takes away 6 in each digit that is corrected. -/
theorem correction_toNat (low high : Bool) : (correction low high).toNat = 6 * low.toNat + 96 * high.toNat := by
  cases low <;> cases high <;> rfl

section
variable {s t : State} {v : Byte} {x y : Nat} (hx : x < 100) (hy : y < 100) (hs : s.a.toNat = bcd x)
  (hv : v.toNat = bcd y)
include hx hy hs hv

/-- After an addition the low digit is corrected exactly where it overflowed: by the half carry, or by a digit
above 9. -/
theorem correctsLow_of_added (h : Added s t v 0) :
    correctsLow t.a t.flagN t.flagH = decide (10 ≤ x % 10 + y % 10) := by
  obtain ⟨ha, -, hn, hh, -⟩ := h
  rw [Bool.eq_iff_iff]
  simp only [correctsLow_iff, hn, hh, ha, hs, hv, bcd_of_lt hx, bcd_of_lt hy,
    decide_eq_true_iff, true_and]
  omega

/-- The high digit, which the low one may carry into, by the carry or by a byte above 0x99. -/
theorem correctsHigh_of_added (h : Added s t v 0) :
    correctsHigh t.a t.flagN t.flagC = decide (100 ≤ x + y) := by
  obtain ⟨ha, -, hn, -, hc⟩ := h
  have hbyte : 255 < bcd x + bcd y ∨ 0x99 < (bcd x + bcd y) % 256 ↔ 0x99 < bcd x + bcd y := by omega
  have hsum : 0x99 < bcd x + bcd y ↔ 100 ≤ x + y := by
    rw [bcd_of_lt hx, bcd_of_lt hy]
    omega
  rw [Bool.eq_iff_iff]
  simp only [correctsHigh_iff, hn, hc, ha, hs, hv, decide_eq_true_iff, true_and, Nat.add_zero, hbyte, hsum]

/-- After a subtraction the borrows alone decide. -/
theorem corrects_of_subtracted {res : Nat} (h : Subtracted s t v 0 res) :
    correctsLow t.a t.flagN t.flagH = decide (x % 10 < y % 10) ∧
      correctsHigh t.a t.flagN t.flagC = decide (x < y) := by
  obtain ⟨-, -, hn, hh, hc⟩ := h
  constructor <;> rw [Bool.eq_iff_iff] <;>
    simp only [correctsLow_iff, correctsHigh_iff, hn, hh, hc, hs, hv, bcd_of_lt hx, bcd_of_lt hy,
      decide_eq_true_iff, reduceCtorEq, false_and, or_false] <;> omega

/-! ### The adjusted sum and difference -/

theorem adjustDecimal_of_added (h : Added s t v 0) :
    t.adjustDecimal.a.toNat = bcd ((x + y) % 100) ∧ t.adjustDecimal.flagC = decide (100 ≤ x + y) := by
  have hlow := correctsLow_of_added hx hy hs hv h
  have hhigh := correctsHigh_of_added hx hy hs hv h
  obtain ⟨ha, -, hn, -, -⟩ := h
  obtain ⟨-, -, -, hc⟩ := adjustDecimal_hasFlags t
  refine ⟨?_, hc.trans hhigh⟩
  rw [adjustDecimal_a, decimalAdjust_res_toNat_of_add hn, hlow, hhigh, correction_toNat, ha, hs, hv,
    bcd_add hx hy, Nat.add_zero, Nat.mod_add_mod]

theorem adjustDecimal_of_subtracted (h : Subtracted s t v 0 t.a.toNat) :
    t.adjustDecimal.a.toNat = bcd ((x + 100 - y) % 100) ∧ t.adjustDecimal.flagC = decide (x < y) := by
  obtain ⟨hlow, hhigh⟩ := corrects_of_subtracted hx hy hs hv h
  obtain ⟨ha, -, hn, -, -⟩ := h
  obtain ⟨-, -, -, hc⟩ := adjustDecimal_hasFlags t
  refine ⟨?_, hc.trans hhigh⟩
  have hl := Bool.toNat_le (decide (x % 10 < y % 10))
  have hh := Bool.toNat_le (decide (x < y))
  rw [adjustDecimal_a, decimalAdjust_res_toNat_of_sub hn, hlow, hhigh, correction_toNat, ha, hs, hv,
    bcd_sub hx hy]
  omega

end

/-! ### The statement -/

/-- Settles O27: the tests of `DAA` find the digits that overflowed or borrowed, and each gets its 6. -/
theorem decimalAdjustIsDecimal : Obligations.DecimalAdjustIsDecimal := by
  intro s t u v x y hx hy hs hv
  refine ⟨fun ht hu => ?_, fun ht hu => ?_⟩
  · cases ht
    cases hu
    exact adjustDecimal_of_added hx hy hs hv
      (added_of_add8 (cin := false) (applyAlu_a s (op := .add) (by decide) v) (applyAlu_hasFlags s .add v))
  · cases ht
    cases hu
    have ha : (s.applyAlu .sub v).a = (sub8 s.a v false).res := applyAlu_a s (by decide) v
    refine adjustDecimal_of_subtracted hx hy hs hv ?_
    rw [ha]
    exact subtracted_of_sub8 (cin := false) (applyAlu_hasFlags s .sub v)

end Sys2Proof.Machine
end

section
/-! SUPPORT. Control bits and the step (30_encoding.md section 7, 45_system.md): which instructions write `IME` and
`halted`, the count, the halted step, the step over the bytes of an encoding, the rewind, and the statements about
them. -/

open Sys2Proof Sys2Proof.Machine Sys2Proof.Claims

namespace Sys2Proof.Machine

/-! ### Who may write the control bits and the count (R39, R40, R148) -/

/-- The items that only system instructions and the step itself write. -/
def Item.isControl (x : Item) : Bool :=
  match x with
  | .ime | .halted | .icount => true
  | _ => false

/-- The control items a shape may write: `halted` by `HALT` and `STOP`, `IME` by `DI`, `EI` and `RETI`. -/
def Shape.controlWrites (sh : Shape) : List Item :=
  match sh with
  | .halt | .stop _ => [.halted]
  | .writeIme _ | .reti => [.ime]
  | _ => []

theorem filter_isControl_writes (sh : Shape) : sh.writes.filter Item.isControl = sh.controlWrites := by
  have hop : ∀ x, (operandItems x).filter Item.isControl = [] := fun x => by cases x <;> rfl
  have hpair : ∀ p, (pairItems p).filter Item.isControl = [] := fun p => by cases p <;> rfl
  have hstack : ∀ p, (stackPairItems p).filter Item.isControl = [] := fun p => by cases p <;> rfl
  have hflags : flagItems.filter Item.isControl = [] := rfl
  have haccess : accessItems.filter Item.isControl = [] := rfl
  cases sh <;>
    simp [Shape.writes, Shape.controlWrites, Item.isControl, hop, hpair, hstack, hflags, haccess]

/-- An instruction keeps every control item but those of its shape. -/
theorem run_control {x : Item} (hx : x.isControl = true) {sh : Shape} (h : x ∉ sh.controlWrites) (s : State) :
    x.same s (sh.run s) := by
  rw [← filter_isControl_writes] at h
  exact run_same sh s x fun hm => h (List.mem_filter.2 ⟨hm, hx⟩)

/-- The instruction of a shape that writes `IME` or `halted`. -/
def Shape.controlInstr (sh : Shape) : Option Instr :=
  match sh with
  | .halt => some .halt
  | .stop n => some (.stop n)
  | .writeIme false => some .di
  | .writeIme true => some .ei
  | .reti => some .reti
  | _ => none

/-- No other instruction has its shape. -/
theorem eq_of_controlInstr {i j : Instr} (h : (Instr.shape i).controlInstr = some j) : i = j := by
  cases i <;> cases h <;> rfl

theorem run_ime (sh : Shape) (s : State) :
    (sh.run s).ime = s.ime ∨ (sh.controlInstr = some .di ∧ (sh.run s).ime = false) ∨
      ((sh.controlInstr = some .ei ∨ sh.controlInstr = some .reti) ∧ (sh.run s).ime = true) := by
  cases sh with
  | writeIme v =>
    cases v with
    | false => exact .inr (.inl ⟨rfl, rfl⟩)
    | true => exact .inr (.inr ⟨.inl rfl, rfl⟩)
  | reti => exact .inr (.inr ⟨.inr rfl, rfl⟩)
  | _ => exact .inl (run_control (x := .ime) rfl (by simp [Shape.controlWrites]) s)

theorem run_halted (sh : Shape) (s : State) :
    (sh.run s).halted = s.halted ∨
      ((sh.controlInstr = some .halt ∨ ∃ n, sh.controlInstr = some (.stop n)) ∧ (sh.run s).halted = true) := by
  cases sh with
  | halt => exact .inr ⟨.inl rfl, rfl⟩
  | stop n => exact .inr ⟨.inr ⟨n, rfl⟩, rfl⟩
  | _ => exact .inl (run_control (x := .halted) rfl (by simp [Shape.controlWrites]) s)

/-- No instruction writes the count. -/
theorem run_icount (sh : Shape) (s : State) : (sh.run s).icount = s.icount :=
  run_control (x := .icount) rfl (by cases sh <;> simp [Shape.controlWrites]) s

/-! ### The count of a step (R148) -/

theorem fetch_icount (s : State) : s.fetch.2.icount = s.icount := fetch_same s .icount (by decide)

theorem finish_icount (s : State) (i : Instr) : (s.finish i).icount = s.icount + 1 :=
  advance_same s.count _ .icount (by decide)

theorem idle_icount (s : State) : s.idle.icount = s.icount := by
  unfold State.idle
  split <;> rfl

/-! ### The step by cases (R143, R144) -/

theorem stepped_of_halted {s : State} (h : s.halted = true) : s.stepped = s.capture.idle := if_pos h

theorem stepped_of_not_halted {s : State} (h : s.halted = false) :
    s.stepped = (Shape.run (Instr.shape s.capture.fetch.1) s.capture.fetch.2).finish s.capture.fetch.1 :=
  if_neg (Bool.eq_false_iff.mp h)

theorem stepped_icount (s : State) : s.stepped.icount = s.icount + (if s.halted then 0 else 1) := by
  cases h : s.halted with
  | true => rw [stepped_of_halted h, idle_icount, capture_icount]; rfl
  | false => rw [stepped_of_not_halted h, finish_icount, run_icount, fetch_icount, capture_icount]; rfl

/-! ### The wake condition and the halted step (R144) -/

/-- An interrupt is pending where the five low bits of `IE` and `IF` have one in common. -/
theorem wake_iff (s : State) : s.wake = true ↔ ((s.ie.toNat % 32) &&& (s.iflag.toNat % 32)) ≠ 0 := by
  have hmask : (s.ie &&& s.iflag &&& 0x1F).toNat = (s.ie.toNat % 32) &&& (s.iflag.toNat % 32) :=
    (Nat.and_two_pow_sub_one_eq_mod _ 5).trans Nat.and_mod_two_pow
  rw [State.wake, bne_iff_ne, ne_eq, BitVec.toNat_eq, hmask]
  rfl

theorem wake_eq_false_iff (s : State) : s.wake = false ↔ ((s.ie.toNat % 32) &&& (s.iflag.toNat % 32)) = 0 := by
  rw [← Bool.not_eq_true, wake_iff, not_not]

theorem idle_of_wake {s : State} (h : s.wake = true) : s.idle = { s with halted := false } := if_pos h

theorem idle_of_not_wake {s : State} (h : s.wake = false) : s.idle = s := if_neg (Bool.eq_false_iff.mp h)

theorem ends_onHalt_iff (s : State) : s.ends .onHalt = true ↔ s.halted = true ∧ s.wake = false := by
  rw [State.ends, Bool.and_eq_true, Bool.not_eq_true']

/-! ### The step over the bytes of an encoding (R140) -/

theorem unmapped_of_byteAt {s : State} {a : Word} {v : Byte} (h : s.byteAt a = some v) : unmapped a = false := by
  unfold State.byteAt at h
  unfold unmapped
  cases hr : region a <;> simp [hr] at h ⊢

/-- Reads of addresses that have a byte leave `invalid` alone. -/
theorem any_unmapped_readsFrom {a : Word} {n : Nat} (h : ∀ k, k < n → unmapped (a + BitVec.ofNat 16 k) = false) :
    (readsFrom a n).any (fun ev => unmapped ev.addr) = false := by
  simp only [readsFrom, List.any_map, List.any_eq_false, List.mem_range, Function.comp_apply, AccessEvent.addr]
  intro k hk
  rw [h k hk]
  exact Bool.false_ne_true

/-! ### The rewind (R44, R815) -/

/-- The pair `AF` reads back through the mask, which its own low nibble passes. -/
theorem setAF_of_af (s t : State) : (t.setAF s.af).af = s.af := by
  apply BitVec.eq_of_toNat_eq
  rw [af_toNat, setAF_a, setAF_f, maskFlags_toNat, hiByte_toNat, loByte_toNat, af_toNat]
  omega

theorem rewind_af {s t : State} (h : t.snap.af = s.af) : t.rewind.af = s.af := by
  rw [← setAF_of_af s t, ← h]
  rfl

theorem rewind_bc (s : State) : s.rewind.bc = s.snap.bc := wordOf_hiByte_loByte s.snap.bc
theorem rewind_de (s : State) : s.rewind.de = s.snap.de := wordOf_hiByte_loByte s.snap.de
theorem rewind_hl (s : State) : s.rewind.hl = s.snap.hl := wordOf_hiByte_loByte s.snap.hl

theorem rewind_same (s : State) :
    SameExcept ([.reg .a, .reg .b, .reg .c, .reg .d, .reg .e, .reg .h, .reg .l, .sp, .pc] ++ flagItems)
      s s.rewind := by
  intro x hx
  cases x with
  | reg r => cases r <;> simp at hx
  | flagZ | flagN | flagH | flagC | sp | pc => simp [flagItems] at hx
  | redirect | ime | halted | invalid | unimpl | icount | snap | history | draws => rfl

/-! ### System instructions (R701 to R705) -/

/-- The eleven illegal bytes: one byte each, and one meaning. -/
theorem illegal_encode_shape :
    ∀ ib ∈ [(Instr.illegalD3, (0xD3 : Byte)), (.illegalDB, 0xDB), (.illegalDD, 0xDD), (.illegalE3, 0xE3),
      (.illegalE4, 0xE4), (.illegalEB, 0xEB), (.illegalEC, 0xEC), (.illegalED, 0xED), (.illegalF4, 0xF4),
      (.illegalFC, 0xFC), (.illegalFD, 0xFD)], encode ib.1 = [ib.2] ∧ Instr.shape ib.1 = .illegal := by
  decide

/-! ### The statements -/

/-- Settles O49: a step answers its effect, an instruction the run of its shape; the count is the step's alone. -/
theorem everyStepCompletesAndCounts : Obligations.EveryStepCompletesAndCounts :=
  ⟨fun s => ⟨s.stepped, step_eq_stepped s, stepped_icount s⟩,
    fun i s => ⟨_, exec_eq_run i s, run_icount _ s⟩⟩

/-- Settles O55: the shapes that write a control bit, each of one instruction. -/
theorem controlBitsHaveTheirWriters : Obligations.ControlBitsHaveTheirWriters := by
  intro i s t h
  rw [eq_run_of_exec h]
  refine ⟨(run_ime _ s).imp_right (Or.imp ?_ ?_), (run_halted _ s).imp_right ?_⟩
  · exact And.imp_left eq_of_controlInstr
  · exact And.imp_left (Or.imp eq_of_controlInstr eq_of_controlInstr)
  · exact And.imp_left (Or.imp eq_of_controlInstr fun ⟨n, hn⟩ => ⟨n, eq_of_controlInstr hn⟩)

/-- Settles O36: the return of `RET`, and `IME`. -/
theorem returnFromInterruptSetsIme : Obligations.ReturnFromInterruptSetsIme := by
  refine ⟨rfl, fun s => ?_⟩
  obtain ⟨hlo, hhi, hsp, haccesses, -, hmemory⟩ := popped_returnTo s
  exact ⟨s.returnFromInterrupt, loByte s.pop16.1, hiByte s.pop16.1, rfl,
    ⟨hlo, hhi, hsp, haccesses.congr rfl rfl, run_same .reti s, hmemory.trans (.of_eq rfl rfl rfl)⟩,
    returnTo_pc_toNat s, rfl, rfl⟩

/-- Settles O43: one bit each; an illegal byte by its encoding and its shape. -/
theorem systemInstructionsAndIllegalBytes : Obligations.SystemInstructionsAndIllegalBytes := by
  refine ⟨rfl, fun _ => rfl, rfl, rfl, fetchReads_opLength 0x10, fun s => ⟨rfl, fun _ => rfl, rfl, rfl⟩,
    fun ib hib => ?_⟩
  obtain ⟨hencode, hshape⟩ := illegal_encode_shape ib hib
  refine ⟨hencode, by rw [instrLength_eq, hencode, List.length_singleton], fun s => ?_⟩
  rw [exec_eq_run, hshape]
  rfl

/-- Settles O47: the capture, then the idle step by the wake condition. -/
theorem haltedStepOnlyWakes : Obligations.HaltedStepOnlyWakes := by
  refine ⟨fun s h => ⟨fun hw => ?_, fun hw => ?_⟩, fun s h => ?_⟩
  · rw [step_eq_stepped, stepped_of_halted h, idle_of_wake ((wake_iff s.capture).2 hw)]
    rfl
  · rw [step_eq_stepped, stepped_of_halted h, idle_of_not_wake ((wake_eq_false_iff s.capture).2 hw)]
    rfl
  · obtain ⟨hhalted, hwake⟩ := (ends_onHalt_iff s).1 h
    refine ⟨s.capture, ?_, h⟩
    rw [step_eq_stepped, stepped_of_halted hhalted, idle_of_not_wake (s := s.capture) hwake]

/-- Settles O45: the fetch finds the instruction, and takes no draw and no unmapped byte on the way. -/
theorem stepRunsTheDecodedInstruction : Obligations.StepRunsTheDecodedInstruction := by
  intro s i hhalted hbytes
  obtain ⟨hi, hdraws, hmem, haccesses⟩ := fetch_of_bytes (s := s.capture) hbytes
  have hmapped : ∀ k, k < (encode i).length → unmapped (s.pc + BitVec.ofNat 16 k) = false := fun k hk =>
    unmapped_of_byteAt ((hbytes k hk).trans (List.getElem?_eq_getElem hk))
  obtain ⟨hhistory, hinvalid⟩ := haccesses
  rw [capture_pc, any_unmapped_readsFrom hmapped, Bool.or_false] at hinvalid
  have hframe := (capture_same s).trans (fetch_same s.capture)
  refine ⟨s.capture.fetch.2, hframe.of_kept (kept := [.draws, .invalid]) ?_ (by decide),
    fetch_sameMemory s.capture, fetch_snap s.capture, hhistory, hmem, ?_⟩
  · exact List.forall_mem_cons.2 ⟨hdraws, List.forall_mem_singleton.2 hinvalid⟩
  · rw [step_eq_stepped, stepped_of_not_halted hhalted, hi, exec_eq_run]

/-- Settles O59: the snapshot a step leaves is that of its start. -/
theorem rewindRestoresTheRegisters : Obligations.RewindRestoresTheRegisters := by
  intro s t h
  obtain ⟨haf, hbc, hde, hhl, hsp, hpc⟩ := stepCapturesTheRegisters s t h
  exact ⟨rewind_af haf, (rewind_bc t).trans hbc, (rewind_de t).trans hde, (rewind_hl t).trans hhl, hsp, hpc,
    .of_eq rfl rfl rfl, rewind_same t⟩

end Sys2Proof.Machine
end

section
/-! SUPPORT. Construction and reset (70_reset_and_hazards.md section 1): the placed image and the zero fill as reads,
the state after each command, and the statements about them. -/

open Sys2Proof Sys2Proof.Machine Sys2Proof.Claims

namespace Sys2Proof.Machine

/-! ### Reads of a placed image and of a zero fill (R900, R901) -/

/-- A placed image reads as 0 beyond its end. -/
theorem imageCells_get_of_length_le {k a : Nat} {image : List Byte} (h : k + image.length ≤ a) :
    (imageCells k image).get a = 0 := by
  induction image generalizing k with
  | nil => rfl
  | cons v rest ih =>
    rw [List.length_cons] at h
    have hrest : (imageCells (k + 1) rest).get a = 0 := ih (by omega)
    unfold imageCells
    split
    · exact hrest
    · rwa [Memory.get, if_neg (by omega)]

/-- ROM reads as the image padded with zeros. -/
theorem imageCells_get_eq_getD (image : List Byte) (a : Nat) : (imageCells 0 image).get a = image.getD a 0 := by
  by_cases h : a < image.length
  · have hget := imageCells_get (k := 0) h
    rw [Nat.zero_add] at hget
    rw [hget, List.getD_eq_getElem _ _ h]
  · rw [imageCells_get_of_length_le (by omega), List.getD_eq_default _ _ (by omega)]

/-- The zero fill of reset keeps the bytes of ROM and no other. -/
theorem Memory.keepRom_get (m : Memory) (a : Nat) : m.keepRom.get a = if a < romSize then m.get a else 0 := by
  induction m with
  | nil => simp [Memory.keepRom, Memory.get]
  | cons cell rest ih =>
    obtain ⟨k, x⟩ := cell
    have hfilter : Memory.keepRom ((k, x) :: rest) =
        if k < romSize then (k, x) :: Memory.keepRom rest else Memory.keepRom rest := by
      simp only [Memory.keepRom, List.filter_cons, decide_eq_true_eq]
    rw [hfilter]
    by_cases hka : k = a
    · subst hka
      split <;> simp_all [Memory.get]
    · split <;> simp only [Memory.get, if_neg hka, ih]

/-! ### The regions outside ROM -/

theorem plainRegion_of_rom {a : Word} (h : a.toNat < romSize) : plainRegion (region a) = true := by
  have hrom : region a = .rom := region_eq_of_claims h
  rw [hrom]
  rfl

/-- A mapped address above ROM is an array cell, `IE`, `IF` or the scanline register. -/
theorem region_of_mapped {a : Word} (h : unmapped a = false) (hly : a ≠ 0xFF44) :
    plainRegion (region a) = true ∨ region a = .ie ∨ region a = .iflag := by
  unfold unmapped at h
  cases hr : region a with
  | ly => exact absurd (region_ly hr) hly
  | unmapped => simp [hr] at h
  | ie => exact .inr (.inl rfl)
  | iflag => exact .inr (.inr rfl)
  | rom | wram0 | wram1 | hram | vram | io => exact .inl rfl

/-! ### The state after construction and after reset -/

theorem construct_of_ne_nil {image : List Byte} (h : image ≠ []) :
    construct image = some { State.reset with mem := imageCells 0 (image.take romSize) } := by
  cases image with
  | nil => exact absurd rfl h
  | cons v rest => rfl

/-- The registers after reset are the profile's, whatever the state was. -/
theorem resetCommand_snapshot (s : State) (p : Profile) :
    (s.resetCommand p).snapshot = (State.reset.resetCommand p).snapshot := by
  cases p <;> rfl

/-- The control state of the host and of the bus that reset leaves alone. -/
theorem resetCommand_kept (s : State) (p : Profile) :
    (s.resetCommand p).ie = s.ie ∧ (s.resetCommand p).iflag = s.iflag ∧
      (s.resetCommand p).invalid = s.invalid ∧ (s.resetCommand p).unimpl = s.unimpl ∧
      (s.resetCommand p).icount = s.icount ∧ (s.resetCommand p).snap = s.snap ∧
      (s.resetCommand p).history = s.history := by
  cases p <;> exact ⟨rfl, rfl, rfl, rfl, rfl, rfl, rfl⟩

theorem resetCommand_mem (s : State) (p : Profile) : (s.resetCommand p).mem = s.mem.keepRom := rfl

theorem resetCommand_byteAt_of_rom (s : State) (p : Profile) {a : Word} (h : a.toNat < romSize) :
    (s.resetCommand p).byteAt a = s.byteAt a := by
  have hplain := plainRegion_of_rom h
  rw [byteAt_plain hplain, byteAt_plain hplain, resetCommand_mem, Memory.keepRom_get, if_pos h]

theorem resetCommand_byteAt_of_not_rom (s : State) (p : Profile) {a : Word} (hplain : plainRegion (region a) = true)
    (h : ¬a.toNat < romSize) : (s.resetCommand p).byteAt a = some 0 := by
  rw [byteAt_plain hplain, resetCommand_mem, Memory.keepRom_get, if_neg h]

/-! ### The statements -/

/-- Settles O56: the bytes of the placed image, and zeros above it. -/
theorem constructPlacesTheImage : Obligations.ConstructPlacesTheImage := by
  refine ⟨rfl, fun image hne => ⟨_, construct_of_ne_nil hne, fun a ha => ?_, fun a ha hmapped hly => ?_, rfl⟩⟩
  · rw [byteAt_plain (plainRegion_of_rom ha)]
    have hrom : a.toNat < romSize := ha
    simp only [imageCells_get_eq_getD, List.getD_eq_getElem?_getD, List.getElem?_take_of_lt hrom]
  · obtain hplain | hie | hiflag := region_of_mapped hmapped hly
    · rw [byteAt_plain hplain]
      have hlen := List.length_take_le romSize image
      have hrom : romSize = 0x8000 := rfl
      exact congrArg some (imageCells_get_of_length_le (by omega))
    · simp only [State.byteAt, hie]
      rfl
    · simp only [State.byteAt, hiflag]
      rfl

/-- Settles O57: the fields of the command, the bytes by the zero fill. -/
theorem resetCommandRestoresTheProfile : Obligations.ResetCommandRestoresTheProfile := by
  intro s
  refine ⟨Snapshot.mk.inj ((resetCommand_snapshot s .dmg).trans (by decide)),
    Snapshot.mk.inj ((resetCommand_snapshot s .alt).trans (by decide)), fun p => ?_⟩
  obtain ⟨hie, hiflag, hinvalid, hunimpl, hicount, hsnap, hhistory⟩ := resetCommand_kept s p
  refine ⟨rfl, rfl, rfl, hie, hiflag, hinvalid, hunimpl, hicount, hsnap, hhistory,
    fun a hrom => resetCommand_byteAt_of_rom s p ((region_eq_iff a .rom).1 hrom), fun a harray => ?_⟩
  have hplain : plainRegion (region a) = true ∧ region a ≠ .rom := by
    obtain h | h | h | h | h := harray <;> rw [h] <;> decide
  exact resetCommand_byteAt_of_not_rom s p hplain.1 fun hlt => hplain.2 (region_eq_of_claims hlt)

end Sys2Proof.Machine
end

section
/-! SUPPORT. The run of a launch (70_reset_and_hazards.md section 3): the three outcomes of a run as facts about the
states at its step boundaries, that the model's run has one of them, that they exclude each other, and the statement
about it. -/

open Sys2Proof Sys2Proof.Machine Sys2Proof.Claims

namespace Sys2Proof.Machine

/-! ### The boundaries of a schedule (R908) -/

/-- At the first `n` boundaries there is a state, and the end condition does not hold in it. -/
def GoesOn (p : EndCondition) (schedule : Schedule) (s : State) (n : Nat) : Prop :=
  ∀ m, m < n → ∃ u, turns (schedule.take m) s = .next u ∧ u.ends p = false

/-- The state `t` is the first one at a boundary in which the end condition holds. -/
def FirstEnd (p : EndCondition) (schedule : Schedule) (s t : State) : Prop :=
  ∃ n, n ≤ schedule.length ∧ turns (schedule.take n) s = .next t ∧ t.ends p = true ∧ GoesOn p schedule s n

/-- The schedule leads to `t`, and the end condition holds at no boundary. -/
def NeverEnds (p : EndCondition) (schedule : Schedule) (s t : State) : Prop :=
  turns schedule s = .next t ∧
    ∀ m, m ≤ schedule.length → ∃ u, turns (schedule.take m) s = .next u ∧ u.ends p = false

section
variable {p : EndCondition} {schedule rest : Schedule} {pokes : Pokes} {s t u : State}

theorem firstEnd_of_ends (h : s.ends p = true) : FirstEnd p schedule s s :=
  ⟨0, Nat.zero_le _, rfl, h, fun m hm => absurd hm (Nat.not_lt_zero m)⟩

theorem neverEnds_nil (h : s.ends p = false) : NeverEnds p [] s s :=
  ⟨rfl, fun _ _ => ⟨s, by rw [List.take_nil, turns_nil], h⟩⟩

/-- A turn that begins without the end condition puts one boundary before the others. -/
theorem GoesOn.cons {n : Nat} (hs : s.ends p = false) (ht : turn pokes s = .next u) (h : GoesOn p rest u n) :
    GoesOn p (pokes :: rest) s (n + 1) := by
  intro m hm
  cases m with
  | zero => exact ⟨s, rfl, hs⟩
  | succ m =>
    rw [List.take_succ_cons, turns_cons ht]
    exact h m (by omega)

theorem FirstEnd.cons (hs : s.ends p = false) (ht : turn pokes s = .next u) (h : FirstEnd p rest u t) :
    FirstEnd p (pokes :: rest) s t := by
  obtain ⟨n, hn, hturns, hend, hbefore⟩ := h
  refine ⟨n + 1, by simpa using hn, ?_, hend, hbefore.cons hs ht⟩
  rw [List.take_succ_cons, turns_cons ht, hturns]

theorem NeverEnds.cons (hs : s.ends p = false) (ht : turn pokes s = .next u) (h : NeverEnds p rest u t) :
    NeverEnds p (pokes :: rest) s t := by
  obtain ⟨hturns, hnever⟩ := h
  have hgoes : GoesOn p rest u (rest.length + 1) := fun m hm => hnever m (Nat.le_of_lt_succ hm)
  refine ⟨by rw [turns_cons ht, hturns], fun m hm => hgoes.cons hs ht m (Nat.lt_succ_of_le hm)⟩

/-- A run does not go on past a boundary at which the end condition holds. -/
theorem GoesOn.le_of_ends {m n : Nat} (h : GoesOn p schedule s m) (hturns : turns (schedule.take n) s = .next t)
    (hend : t.ends p = true) : m ≤ n := by
  by_contra hlt
  obtain ⟨u, hu, hno⟩ := h n (by omega)
  cases hturns.symm.trans hu
  rw [hend] at hno
  cases hno

theorem FirstEnd.unique (h : FirstEnd p schedule s t) (h' : FirstEnd p schedule s u) : t = u := by
  obtain ⟨n, -, hn, hend, hbefore⟩ := h
  obtain ⟨m, -, hm, hend', hbefore'⟩ := h'
  obtain rfl : n = m := Nat.le_antisymm (hbefore.le_of_ends hm hend') (hbefore'.le_of_ends hn hend)
  cases hn.symm.trans hm
  rfl

theorem FirstEnd.not_neverEnds (h : FirstEnd p schedule s t) : ¬NeverEnds p schedule s u := by
  rintro ⟨-, hnever⟩
  obtain ⟨n, hn, hturns, hend, -⟩ := h
  have hgoes : GoesOn p schedule s (schedule.length + 1) := fun m hm => hnever m (Nat.le_of_lt_succ hm)
  have hle := hgoes.le_of_ends hturns hend
  omega

theorem NeverEnds.unique (h : NeverEnds p schedule s t) (h' : NeverEnds p schedule s u) : t = u := by
  cases h.1.symm.trans h'.1
  rfl

end

/-! ### The outcomes of a run (R805, R908) -/

/-- What a run has come to, in terms of its boundaries. -/
inductive RunOutcome (p : EndCondition) (schedule : Schedule) (s : State) : RunResult → Prop where
  | ended {t : State} (hi : NoInterruptDue p schedule s) (h : FirstEnd p schedule s t) :
    RunOutcome p schedule s t.endAs
  | notOver {t : State} (hi : NoInterruptDue p schedule s) (h : NeverEnds p schedule s t) :
    RunOutcome p schedule s (.notOver t)
  | due {t : State} (hi : ¬NoInterruptDue p schedule s) (h : t.noInterruptDue = false) :
    RunOutcome p schedule s (.interruptDue t)

section
variable {p : EndCondition} {schedule rest : Schedule} {pokes : Pokes} {s t u : State}

/-- The outcome of a run that goes on is that of its remaining turns. -/
theorem RunOutcome.cons {r : RunResult} (hs : s.stops p = none) (hp : (s.pokeAll pokes).noInterruptDue = true)
    (ht : turn pokes s = .next u) (h : RunOutcome p rest u r) : RunOutcome p (pokes :: rest) s r := by
  obtain ⟨hdue, hend⟩ := stops_eq_none.1 hs
  have hiff : NoInterruptDue p (pokes :: rest) s ↔ NoInterruptDue p rest u := by
    rw [noInterruptDue_cons hend ht, hdue, hp]
    simp
  cases h with
  | ended hi h => exact .ended (hiff.2 hi) (h.cons hend ht)
  | notOver hi h => exact .notOver (hiff.2 hi) (h.cons hend ht)
  | due hi h => exact .due (fun hn => hi (hiff.1 hn)) h

/-- The outcome of a run that stops at its first boundary. -/
theorem runOutcome_of_stops {r : RunResult} (h : s.stops p = some r) (schedule : Schedule) :
    RunOutcome p schedule s r := by
  cases hi : s.noInterruptDue with
  | false =>
    cases (stops_of_due p hi).symm.trans h
    exact .due (fun hn => by rw [hn.here] at hi; cases hi) hi
  | true =>
    cases he : s.ends p with
    | false => rw [stops_eq_none.2 ⟨hi, he⟩] at h; cases h
    | true =>
      cases (stops_of_ends hi he).symm.trans h
      exact .ended ((noInterruptDue_of_ends he schedule).2 hi) (firstEnd_of_ends he)

/-- Every run has an outcome: at its first boundary, at the pokes of it, or later. -/
theorem exists_runOutcome (p : EndCondition) (schedule : Schedule) (s : State) :
    ∃ r, runUntil p schedule s = .next r ∧ RunOutcome p schedule s r := by
  induction schedule generalizing s with
  | nil =>
    cases h : s.stops p with
    | some r => exact ⟨r, runUntil_stops h [], runOutcome_of_stops h []⟩
    | none =>
      obtain ⟨hdue, hend⟩ := stops_eq_none.1 h
      exact ⟨_, runUntil_nil h, .notOver ((noInterruptDue_nil p s).2 hdue) (neverEnds_nil hend)⟩
  | cons pokes rest ih =>
    cases h : s.stops p with
    | some r => exact ⟨r, runUntil_stops h _, runOutcome_of_stops h _⟩
    | none =>
      obtain ⟨u, ht⟩ := turn_next pokes s
      cases hp : (s.pokeAll pokes).noInterruptDue with
      | false =>
        refine ⟨_, runUntil_poked h hp rest, .due (fun hn => ?_) hp⟩
        obtain ⟨-, hpoked, -⟩ := (noInterruptDue_cons (stops_eq_none.1 h).2 ht rest).1 hn
        rw [hp] at hpoked
        cases hpoked
      | true =>
        obtain ⟨r, hr, hout⟩ := ih u
        exact ⟨r, (runUntil_cons h hp ht rest).trans hr, hout.cons h hp ht⟩

theorem endAs_injective (h : s.endAs = t.endAs) : s = t := by
  unfold State.endAs at h
  split at h <;> split at h <;> cases h <;> rfl

theorem runUntil_eq_endAs_iff :
    runUntil p schedule s = .next t.endAs ↔ NoInterruptDue p schedule s ∧ FirstEnd p schedule s t := by
  obtain ⟨r, hr, hout⟩ := exists_runOutcome p schedule s
  rw [hr, Host.Outcome.next.injEq]
  cases hout with
  | ended hi h =>
    refine ⟨fun he => ⟨hi, endAs_injective he ▸ h⟩, fun ⟨_, h'⟩ => by rw [h.unique h']⟩
  | @notOver w hi h =>
    exact ⟨fun he => absurd he.symm (endAs_ne_notOver t w), fun ⟨_, h'⟩ => absurd h h'.not_neverEnds⟩
  | @due w hi h =>
    exact ⟨fun he => absurd he.symm (endAs_ne_interruptDue t w), fun ⟨hn, _⟩ => absurd hn hi⟩

theorem runUntil_eq_notOver_iff :
    runUntil p schedule s = .next (.notOver t) ↔ NoInterruptDue p schedule s ∧ NeverEnds p schedule s t := by
  obtain ⟨r, hr, hout⟩ := exists_runOutcome p schedule s
  rw [hr, Host.Outcome.next.injEq]
  cases hout with
  | @ended w hi h =>
    exact ⟨fun he => absurd he (endAs_ne_notOver w t), fun ⟨_, h'⟩ => absurd h' h.not_neverEnds⟩
  | notOver hi h =>
    exact ⟨fun he => ⟨hi, RunResult.notOver.inj he ▸ h⟩, fun ⟨_, h'⟩ => by rw [h.unique h']⟩
  | due hi h => exact ⟨nofun, fun ⟨hn, _⟩ => absurd hn hi⟩

/-- An end once found stays, whatever is added to the schedule. -/
theorem runUntil_append (h : runUntil p schedule s = .next t.endAs) (more : Schedule) :
    runUntil p (schedule ++ more) s = .next t.endAs := by
  induction schedule generalizing s with
  | nil =>
    cases hs : s.stops p with
    | some r => rw [runUntil_stops hs] at h ⊢; exact h
    | none =>
      rw [runUntil_nil hs, Host.Outcome.next.injEq] at h
      exact absurd h.symm (endAs_ne_notOver t s)
  | cons pokes rest ih =>
    cases hs : s.stops p with
    | some r => rw [runUntil_stops hs] at h ⊢; exact h
    | none =>
      obtain ⟨u, ht⟩ := turn_next pokes s
      cases hp : (s.pokeAll pokes).noInterruptDue with
      | false =>
        rw [runUntil_poked hs hp, Host.Outcome.next.injEq] at h
        exact absurd h.symm (endAs_ne_interruptDue t _)
      | true =>
        rw [runUntil_cons hs hp ht] at h
        rw [List.cons_append, runUntil_cons hs hp ht]
        exact ih h

end

/-! ### The statement -/

theorem noInterruptDue_eq_false_iff (s : State) :
    s.noInterruptDue = false ↔ s.ime = true ∧ s.wake = true := by
  simp [State.noInterruptDue]

theorem ends_atAddress_iff (s : State) (e : Word) :
    s.ends (.atAddress e) = true ↔ s.pc = e ∧ s.halted = false := by
  simp [State.ends]

theorem faulted_iff (s : State) : s.faulted = true ↔ s.invalid = true ∨ s.unimpl = true := by
  simp [State.faulted]

theorem faulted_eq_false_iff (s : State) : s.faulted = false ↔ s.invalid = false ∧ s.unimpl = false := by
  simp [State.faulted]

/-- The three clauses on interrupts (R805), by the outcome of the run. -/
theorem runUntil_interrupts (p : EndCondition) (schedule : Schedule) (s : State) :
    (¬NoInterruptDue p schedule s → ∃ t, runUntil p schedule s = .next (.interruptDue t)) ∧
      (∀ t, runUntil p schedule s = .next (.interruptDue t) →
        ¬NoInterruptDue p schedule s ∧ t.ime = true ∧ ((t.ie.toNat % 32) &&& (t.iflag.toNat % 32)) ≠ 0) ∧
      (NoInterruptDue p schedule s →
        ∃ t, runUntil p schedule s = .next t.endAs ∨ runUntil p schedule s = .next (.notOver t)) := by
  obtain ⟨r, hr, hout⟩ := exists_runOutcome p schedule s
  rw [hr]
  refine ⟨fun hn => ?_, fun t h => ?_, fun hi => ?_⟩
  · cases hout with
    | ended hi _ | notOver hi _ => exact absurd hi hn
    | @due w _ _ => exact ⟨w, rfl⟩
  · cases hout with
    | @ended w _ _ => exact absurd (Host.Outcome.next.inj h) (endAs_ne_interruptDue w t)
    | notOver _ _ => cases h
    | due hn hdue =>
      cases h
      obtain ⟨hime, hwake⟩ := (noInterruptDue_eq_false_iff t).1 hdue
      exact ⟨hn, hime, (wake_iff t).1 hwake⟩
  · cases hout with
    | @ended w _ _ => exact ⟨w, .inl rfl⟩
    | @notOver w _ _ => exact ⟨w, .inr rfl⟩
    | due hn _ => exact absurd hi hn

/-- Settles O58: the outcomes of a run are those of its boundaries, and exclude each other. -/
theorem runEndsAtTheFirstBoundary : Obligations.RunEndsAtTheFirstBoundary := by
  refine ⟨fun p schedule s t =>
      ⟨runUntil_eq_endAs_iff, runUntil_eq_notOver_iff, fun more h => runUntil_append h more⟩,
    runUntil_interrupts, ends_atAddress_iff, fun s => ?_, fun s => ⟨fun h => ?_, fun h => ?_⟩,
    fun l schedule => ⟨fun h => ?_, fun s hs => ⟨fun hp => ?_, fun p hp => ?_⟩⟩⟩
  · rw [ends_onHalt_iff, wake_eq_false_iff]
  · exact endAs_eq_faulted.2 ⟨rfl, (faulted_iff s).2 h⟩
  · exact endAs_eq_success.2 ⟨rfl, (faulted_eq_false_iff s).2 h⟩
  · simp [Launch.run, Launch.start, h, construct, Image.wellFormed]
  · simp [Launch.run, Launch.start, hs, hp]
  · simp [Launch.run, Launch.start, hs, hp]

end Sys2Proof.Machine
end

section
/-! SUPPORT. What no program reads (10_state.md section 8): each operation, instruction and step leaves a program view
that depends on the program view before it alone, and the statement about it. -/

open Sys2Proof Sys2Proof.Machine Sys2Proof.Claims

namespace Sys2Proof.Machine

/-! ### Operations that look at the program view alone (R50) -/

/-- The program view after the operation depends on the program view before it alone. -/
def Blind (k : State → State) : Prop := ∀ s, programView (k (programView s)) = programView (k s)

theorem Blind.comp {k k' : State → State} (h' : Blind k') (h : Blind k) : Blind fun s => k' (k s) := fun s => by
  rw [← h' (k (programView s)), h s, h']

theorem Blind.ite {k k' : State → State} {c : State → Bool} (hc : ∀ s, c (programView s) = c s) (h : Blind k)
    (h' : Blind k') : Blind fun s => if c s then k s else k' s := fun s => by
  simp only [hc]
  split
  · exact h s
  · exact h' s

/-! ### Accesses (R83, R84) -/

/-- A read that feeds an operation: the byte read depends on the program view alone. -/
theorem Blind.memRead {k : Byte → State → State} (hk : ∀ v, Blind (k v)) (a : Word) :
    Blind fun s => k (s.memRead a).1 (s.memRead a).2 := fun s => by
  have hvalue : ((programView s).memRead a).1 = (s.memRead a).1 := by
    unfold State.memRead State.load
    cases region a <;> rfl
  have hstate : programView ((programView s).memRead a).2 = programView (s.memRead a).2 := by
    unfold State.memRead State.load
    cases region a <;> rfl
  beta_reduce
  rw [hvalue, ← hk, hstate, hk]

theorem memWrite_blind (a : Word) (v : Byte) : Blind (·.memWrite a v) := fun s => by
  unfold State.memWrite State.store
  cases region a <;> rfl

theorem Blind.readOperand {k : Byte → State → State} (hk : ∀ v, Blind (k v)) (x : Operand8) :
    Blind fun s => k (s.readOperand x).1 (s.readOperand x).2 := fun s => by
  cases x with
  | reg r =>
    have hreg : (programView s).reg8 r = s.reg8 r := by cases r <;> rfl
    simp only [State.readOperand, hreg]
    exact hk _ s
  | atHL => exact Blind.memRead hk s.hl s

theorem writeOperand_blind (x : Operand8) (v : Byte) : Blind (·.writeOperand x v) := fun s => by
  cases x with
  | reg r => cases r <;> rfl
  | atHL => exact memWrite_blind s.hl v s

theorem setReg8_blind (r : Reg8) (v : Byte) : Blind (·.setReg8 r v) := writeOperand_blind (.reg r) v

theorem loadRegister_blind (r : Reg8) (a : Word) : Blind (·.loadRegister r a) := Blind.memRead (setReg8_blind r) a

/-! ### The stack (R88, R89) -/

theorem push16_blind (v : Word) : Blind (·.push16 v) := fun s =>
  (memWrite_blind (s.sp - 2) (loByte v)).comp
    ((memWrite_blind (s.sp - 2 + 1) (hiByte v)).comp (k := fun t => { t with sp := t.sp - 2 }) fun _ => rfl) s

/-- A pop that feeds an operation. -/
theorem Blind.pop16 {k : Word → State → State} (hk : ∀ v, Blind (k v)) :
    Blind fun s => k s.pop16.1 s.pop16.2 := fun s =>
  have hsecond : ∀ lo, Blind fun t =>
      k (wordOf (t.memRead (s.sp + 1)).1 lo) { (t.memRead (s.sp + 1)).2 with sp := s.sp + 2 } := fun lo =>
    Blind.memRead (k := fun hi t => k (wordOf hi lo) { t with sp := s.sp + 2 })
      (fun hi => (hk (wordOf hi lo)).comp fun _ => rfl) (s.sp + 1)
  Blind.memRead hsecond s.sp s

theorem jump_blind (target : Word) : Blind (·.jump target) := fun _ => rfl

theorem push16_jump_blind (v target : Word) : Blind fun s => (s.push16 v).jump target :=
  (jump_blind target).comp (push16_blind v)

theorem returnTo_blind : Blind State.returnTo := Blind.pop16 jump_blind

/-! ### The shared operations -/

theorem applyAlu_blind (op : AluOp) (v : Byte) : Blind (·.applyAlu op v) := fun s => by
  cases op <;> rfl

theorem modifyOperand_blind (f : Byte → Bool → AluOut) (x : Operand8) : Blind (·.modifyOperand f x) :=
  Blind.readOperand
    (k := fun v t =>
      let r := f v t.flagC
      (t.writeOperand x r.res).setFlags r.z r.n r.h r.c)
    (fun v s =>
      let r := f v s.flagC
      Blind.comp (k' := (·.setFlags r.z r.n r.h r.c)) (fun _ => rfl) (writeOperand_blind x r.res) s)
    x

theorem replaceOperand_blind (g : Byte → Byte) (x : Operand8) : Blind (·.replaceOperand g x) :=
  Blind.readOperand (k := fun v t => t.writeOperand x (g v)) (fun v => writeOperand_blind x (g v)) x

theorem setHL_blind (v : Word) : Blind (·.setHL v) := fun _ => rfl

/-! ### The instructions -/

theorem cond_programView (k : Cond) (s : State) : (programView s).cond k = s.cond k := by
  cases k <;> rfl

/-- No instruction looks beyond the program view. Where an operation takes an address or a value from the state it
starts in, that is part of the view, and the law of the operation is used at it. -/
theorem run_blind (sh : Shape) : Blind sh.run := by
  cases sh with
  | alu op x => exact Blind.readOperand (applyAlu_blind op) x
  | aluImm op n => exact applyAlu_blind op n
  | inc x => exact modifyOperand_blind inc8 x
  | dec x => exact modifyOperand_blind dec8 x
  | rot op x => exact modifyOperand_blind (rotate8 op) x
  | res b x => exact replaceOperand_blind (· &&& ~~~(bitMask b)) x
  | set b x => exact replaceOperand_blind (· ||| bitMask b) x
  | bit b x =>
    exact Blind.readOperand (k := fun v t => t.setFlags (!v.getLsbD b.val) false true t.flagC) (fun _ _ => rfl) x
  | copy dst src => exact fun s => by cases src <;> exact setReg8_blind dst _ s
  | loadHL dst => exact fun s => loadRegister_blind dst s.hl s
  | loadAt p => exact fun s => by cases p <;> exact loadRegister_blind .a _ s
  | loadStep d => exact fun s => (setHL_blind (s.hl + d)).comp (loadRegister_blind .a s.hl) s
  | loadHigh n => exact loadRegister_blind .a (highPage n)
  | loadHighC => exact fun s => loadRegister_blind .a (highPage s.c) s
  | loadAbs a => exact loadRegister_blind .a a
  | storeHL r => exact fun s => by cases r <;> exact memWrite_blind s.hl _ s
  | storeImm n => exact fun s => memWrite_blind s.hl n s
  | storeAt p => exact fun s => by cases p <;> exact memWrite_blind _ s.a s
  | storeStep d => exact fun s => (setHL_blind (s.hl + d)).comp (memWrite_blind s.hl s.a) s
  | storeHigh n => exact fun s => memWrite_blind (highPage n) s.a s
  | storeHighC => exact fun s => memWrite_blind (highPage s.c) s.a s
  | storeAbs a => exact fun s => memWrite_blind a s.a s
  | storeSP a => exact fun s => (memWrite_blind (a + 1) (hiByte s.sp)).comp (memWrite_blind a (loByte s.sp)) s
  | push p => exact fun s => by cases p <;> exact push16_blind _ s
  | pop p => exact Blind.pop16 (k := fun v t => t.setStackPair p v) fun v s => by cases p <;> rfl
  | call t => exact fun s => push16_jump_blind (s.pc + 3) t s
  | rst t => exact fun s => push16_jump_blind (s.pc + 1) t s
  | ret => exact returnTo_blind
  | reti => exact Blind.comp (k' := (·.setIme true)) (fun _ => rfl) returnTo_blind
  | callIf k t =>
    exact Blind.ite (cond_programView k) (fun s => push16_jump_blind (s.pc + 3) t s) fun _ => rfl
  | retIf k => exact Blind.ite (cond_programView k) returnTo_blind fun _ => rfl
  | jumpIf k t => exact Blind.ite (cond_programView k) (jump_blind t) fun _ => rfl
  | jrIf k e => exact Blind.ite (cond_programView k) (fun s => jump_blind (s.relativeTarget e) s) fun _ => rfl
  | loadImm dst n => exact setReg8_blind dst n
  | loadPair p n => exact fun s => by cases p <;> rfl
  | incPair p => exact fun s => by cases p <;> rfl
  | decPair p => exact fun s => by cases p <;> rfl
  | addHL p => exact fun s => by cases p <;> rfl
  | _ => exact fun _ => rfl

/-! ### The step (R143) -/

/-- What the fetch does after the first byte `op`, with `a` the address of the next one. -/
def State.fetchRest (t : State) (a : Word) (op : Byte) : Instr × State :=
  match decodeFirst op with
  | .whole i => (i, t)
  | .imm8 f => (f (t.memRead a).1, (t.memRead a).2)
  | .imm16 f => (f (t.memRead16 a).1, (t.memRead16 a).2)
  | .extended => (decodeExtended (t.memRead a).1, (t.memRead a).2)

theorem fetch_eq_fetchRest (s : State) :
    s.fetch = (s.memRead s.pc).2.fetchRest (s.pc + 1) (s.memRead s.pc).1 := rfl

theorem Blind.fetchRest {k : Instr → State → State} (hk : ∀ i, Blind (k i)) (a : Word) (op : Byte) :
    Blind fun t => k (t.fetchRest a op).1 (t.fetchRest a op).2 := by
  unfold State.fetchRest
  cases decodeFirst op with
  | whole i => exact hk i
  | imm8 f => exact Blind.memRead (k := fun n => k (f n)) (fun n => hk (f n)) a
  | imm16 f =>
    exact Blind.memRead (k := fun lo t => k (f (wordOf (t.memRead (a + 1)).1 lo)) (t.memRead (a + 1)).2)
      (fun lo => Blind.memRead (k := fun hi => k (f (wordOf hi lo))) (fun hi => hk (f (wordOf hi lo))) (a + 1)) a
  | extended =>
    exact Blind.memRead (k := fun cbop => k (decodeExtended cbop)) (fun cbop => hk (decodeExtended cbop)) a

theorem Blind.fetch {k : Instr → State → State} (hk : ∀ i, Blind (k i)) :
    Blind fun s => k s.fetch.1 s.fetch.2 := fun s => by
  simp only [fetch_eq_fetchRest]
  exact Blind.memRead (k := fun op t => k (t.fetchRest (s.pc + 1) op).1 (t.fetchRest (s.pc + 1) op).2)
    (fun op => Blind.fetchRest hk (s.pc + 1) op) s.pc s

theorem finish_blind (i : Instr) : Blind (·.finish i) :=
  Blind.ite (k := fun s => { s.count with redirect := false })
    (k' := fun s => { s.count with pc := s.pc + BitVec.ofNat 16 (instrLength i) }) (c := (·.redirect))
    (fun _ => rfl) (fun _ => rfl) fun _ => rfl

theorem idle_blind : Blind State.idle :=
  Blind.ite (k := fun s => { s with halted := false }) (c := State.wake) (fun _ => rfl) (fun _ => rfl) fun _ => rfl

theorem capture_blind : Blind State.capture := fun _ => rfl

/-- A step leaves a program view that depends on the program view before it alone. -/
theorem stepped_blind : Blind State.stepped :=
  Blind.ite (c := State.halted) (fun _ => rfl) (idle_blind.comp capture_blind)
    ((Blind.fetch (k := fun i t => (Shape.run (Instr.shape i) t).finish i)
      fun i => (finish_blind i).comp (run_blind (Instr.shape i))).comp capture_blind)

/-! ### The statement -/

/-- Settles O54: both steps leave what the step from the common program view leaves. -/
theorem hiddenStateDoesNotInterfere : Obligations.HiddenStateDoesNotInterfere := by
  intro s s' t hview h
  rw [step_eq_stepped] at h
  cases h
  refine ⟨s'.stepped, step_eq_stepped s', ?_⟩
  rw [← stepped_blind s, hview, stepped_blind s']

end Sys2Proof.Machine
end
